-- ==== Sys2Proof/Word.lean ====
section
/-! DEFINITION. The word types of the MD5 core: 8-bit bytes, 32-bit words (R6, R9), 64-bit registers (R27 to R30), 40-bit
transaction descriptors (R81) and 9-bit micro-op words (R85). Every value is unsigned (R8), so the arithmetic is BitVec's own:
`+` is the `+32` of R9 and R120 (mod 2^32), `~~~`, `&&&`, `|||` and `^^^` are the bitwise operators of R9. -/

namespace Sys2Proof

/-- A byte of the input memory or of the digest. -/
abbrev Byte := BitVec 8

/-- A 32-bit word: chaining, working, message and digest words, and the data of one bus access. -/
abbrev Word := BitVec 32

/-- A 64-bit register: SRC, LEN, NBLK, BLK. -/
abbrev DWord := BitVec 64

/-- A 40-bit transaction descriptor, R81: WE (39), Z (38), ADDR (37:32), DATA (31:0). -/
abbrev Desc := BitVec 40

/-- A 9-bit micro-op word, R85: PHASE (8:6), STEP (5:0). -/
abbrev MicroWord := BitVec 9

end Sys2Proof
end

