-- ==== Sys2Proof/Config.lean ====
section
/-! DEFINITION. What the spec leaves to the implementation (R7, 93 U7, U8) and the free values of the model.
The address width ADDR_W is a parameter with a default; it stands in the machine's state (as the field `addrW`, which no step
changes), so that a statement about every state holds for every ADDR_W. BASE and the values of the registers that a reset or a
CLEAR leaves unspecified are constants without a body: nothing can be proved of their values. -/

namespace Sys2Proof

/-- ADDR_W's default, R7 and D4. -/
def Config.defaultAddrW : Nat := 64

/-- ADDR_W's legal range, R7: 1 ≤ ADDR_W ≤ 64. -/
abbrev Config.legalAddrW (w : Nat) : Prop := 1 ≤ w ∧ w ≤ 64

/-- BASE: the bus address of the register window, a parameter of the platform (R7, R69, 93 U8). No step depends on it: a
transaction carries the offset within the window (R80). -/
opaque Config.base : Nat

/-- The free words: what the registers H, r and M hold after a CLEAR or a reset (R51, R159: "unspecified"). The argument is the
counter `freeIdx` of the state, so that no two of them are known to be equal. -/
opaque Config.freeWord : Nat → Word

end Sys2Proof
end

