-- ==== Sys2Proof/Machine/State.lean ====
section
/-! DEFINITION. The machine's state as plain data (10_state.md), the reasons a step can stop, and the state after reset. -/

namespace Sys2Proof.Machine

/-- The sequencer phase, R25. Its 3-bit code is `Phase.code` (Machine/Flags.lean). -/
inductive Phase where
  | idle
  | padding
  | iterLoad
  | iterRound
  | iterFeed
  | finalizing
  | done
  | error
  deriving DecidableEq, Repr

/-- InMem (R60): the bytes that differ from what an unlisted address reads as, with addresses strictly rising. -/
abbrev Memory := List Host.Cell

/-- One access of the host's bus (R80): its width in bits and the descriptor of its other signals (R81). -/
structure BusReq where
  width : Nat
  desc : Desc
  deriving DecidableEq, Repr

/-- A turn of the interleaving (R67): the core's, a host transaction's, the reset line's (R200), or a write of one byte of InMem by
the host, which is outside the block (R60, R71). DESIGN CHOICE (log 1, log 9, log 20). -/
inductive Move where
  | core
  | bus (req : BusReq)
  | rst
  | memWrite (addr : Nat) (byte : Byte)
  deriving DecidableEq, Repr

/-- The state of one core, its input memory and the interleaving to come. -/
structure State where
  /-- ADDR_W, the parameter of R7; no step changes it (log 6). -/
  addrW : Nat
  /-- PHASE, R25. -/
  phase : Phase
  /-- STEP, R26. -/
  step : BitVec 6
  /-- BLK, R27. -/
  blk : DWord
  /-- NBLK, R28. -/
  nblk : DWord
  /-- SRC, R29. -/
  src : DWord
  /-- LEN, R30. -/
  len : DWord
  /-- IRQ_EN, R31. -/
  irqEn : Bool
  /-- ERR_TOO_LARGE, R32. -/
  errTooLarge : Bool
  /-- ERR_RANGE, R32. -/
  errRange : Bool
  /-- ERR_BUSY, R32. -/
  errBusy : Bool
  /-- DIGEST[0..3], R33. -/
  digest : Vector Word 4
  /-- The chaining registers H[0..3], R21. -/
  h : Vector Word 4
  /-- The working registers r[0..3] (a, b, c, d), R23. -/
  r : Vector Word 4
  /-- The message word buffer M[0..15], R24. -/
  m : Vector Word 16
  /-- InMem, R48 and R60. -/
  inMem : Memory
  /-- The model's own: the interleaving still to come. When it is empty the turn is the core's (log 1). -/
  moves : List Move
  /-- The model's own: the word on bus_rdata (R80), there only right after the step of a read (log 2). -/
  busRdata : Option Word
  /-- The model's own: which free words the next CLEAR or reset takes (log 5). -/
  freeIdx : Nat
  deriving DecidableEq, Repr

/-- Why the machine stops. Each is safe: the machine stops where the hardware could only be in a state no run reaches, or where the
host names an address that does not exist. -/
inductive Fault where
  /-- Raised by LOAD when a message byte of the block lies outside InMem (no address from 2^ADDR_W up exists, R60), and by the
  host's write of such a byte. Safe. After PAD's check no LOAD raises it (R111; log 10). -/
  | inMemAddress
  /-- Raised by LOAD when BLK is no block of the padded message: W(b, j) is defined for b < NBLK(LEN) alone (R110, R111). Safe. No
  reachable LOAD raises it (log 10). -/
  | blockIndex
  deriving DecidableEq, Repr

/-- Why a step has no meaning. -/
inductive Refusal where
  /-- Raised by exec's arm of an instruction without a meaning yet: none is left. Safe. -/
  | notModelled (mnemonic : String)
  /-- Raised by the bus for an access that R66 does not admit: not 32 bits wide, Z = 1, or ADDR[1:0] ≠ 0. The chip answers bus_err and
  changes no state; "The model refuses an `illegal` transaction" (R83). Safe (log 8). -/
  | busError
  /-- Raised by the host's change of a message byte while BUSY: "The model gives the host no such move" (R72). Safe (log 9). -/
  | messageChangedWhileBusy
  deriving DecidableEq, Repr

/-- The machine right after reset, R51. H, r and M are unspecified there: 0 is a DESIGN CHOICE (log 4), as are the reset values of
the model's own fields (log 1, log 2, log 5) and of InMem (log 3). -/
def State.reset : State where
  addrW := Config.defaultAddrW
  phase := .idle
  step := 0
  blk := 0
  nblk := 0
  src := 0
  len := 0
  irqEn := false
  errTooLarge := false
  errRange := false
  errBusy := false
  digest := #v[0, 0, 0, 0]
  h := #v[0, 0, 0, 0]
  r := #v[0, 0, 0, 0]
  m := #v[0, 0, 0, 0, 0, 0, 0, 0, 0, 0, 0, 0, 0, 0, 0, 0]
  inMem := []
  moves := []
  busRdata := none
  freeIdx := 0

end Sys2Proof.Machine
end

