-- ==== Sys2Proof/Machine/Flags.lean ====
section
/-! DEFINITION. The sequencer's codes and the status values computed from the state: PHASE's code (R25), the micro-op word (R85),
BUSY, DONE and QUIESCENT (R34), the irq level (R35), and the words of STATUS (R38) and CTRL (R37). -/

namespace Sys2Proof.Machine

/-- The 3-bit code of a phase, R25. -/
def Phase.code : Phase → BitVec 3
  | .idle => 0
  | .padding => 1
  | .iterLoad => 2
  | .iterRound => 3
  | .iterFeed => 4
  | .finalizing => 5
  | .done => 6
  | .error => 7

/-- The phase of a 3-bit code: "Every code is used; none is reserved" (R25). -/
def Phase.ofCode (c : BitVec 3) : Phase :=
  match c.toNat with
  | 0 => .idle
  | 1 => .padding
  | 2 => .iterLoad
  | 3 => .iterRound
  | 4 => .iterFeed
  | 5 => .finalizing
  | 6 => .done
  | _ => .error

/-- BUSY for a phase: 1 ≤ PHASE ≤ 5 (R34). -/
def Phase.busy (p : Phase) : Bool := decide (1 ≤ p.code.toNat) && decide (p.code.toNat ≤ 5)

/-- BUSY, R34. -/
def State.busy (s : State) : Bool := s.phase.busy

/-- DONE, R34. -/
def State.isDone (s : State) : Bool := s.phase == .done

/-- QUIESCENT, R34: the core has no micro-op. -/
def State.quiescent (s : State) : Bool := s.phase == .idle || s.phase == .done || s.phase == .error

/-- The level of `irq`, R35 and R186. -/
def State.irq (s : State) : Bool := s.irqEn && (s.phase == .done || s.phase == .error)

/-- The micro-op word {PHASE, STEP}, R85: the sequencer's position, the counterpart of a pc (R46). -/
def State.microWord (s : State) : MicroWord := s.phase.code ++ s.step

/-- The word of CTRL, R37 and R150: IRQ_EN at bit 2; START and CLEAR read 0. -/
def State.ctrlWord (s : State) : Word := (BitVec.ofBool s.irqEn ++ 0b00#2).setWidth 32

/-- The word of STATUS, R38 and R151. -/
def State.statusWord (s : State) : Word :=
  (BitVec.ofBool s.irq ++ BitVec.ofBool s.errBusy ++ BitVec.ofBool s.errRange ++ BitVec.ofBool s.errTooLarge
    ++ BitVec.ofBool s.isDone ++ BitVec.ofBool s.busy ++ s.phase.code).setWidth 32

end Sys2Proof.Machine
end

