-- ==== Sys2Proof/Machine/Operands.lean ====
section
/-! DEFINITION. Operand forms: the halves of a 64-bit register (field HI of R82), the words of a register array (field N), the
fields of CTRL write data (R84), and the operands of a compression step (R88): mixing function, message word, rotation and constant.
The arithmetic primitives of R120 to R125 stand here too. -/

namespace Sys2Proof.Machine

/-- The half of a 64-bit register a host read names (R152 to R155): HI = 0 bits 31:0, HI = 1 bits 63:32. -/
def half (hi : Bool) (v : DWord) : Word := if hi then v.extractLsb' 32 32 else v.extractLsb' 0 32

/-- A 64-bit register with one half replaced by write data (R163, R164). -/
def insertHalf (hi : Bool) (v : DWord) (data : Word) : DWord :=
  if hi then data ++ v.extractLsb' 0 32 else v.extractLsb' 32 32 ++ data

/-- DATA[2] of a CTRL write: IRQ_EN (R84). -/
def ctrlIrqEn (data : Word) : Bool := data.getLsbD 2

/-- F, R122. -/
def mixF (x y z : Word) : Word := (x &&& y) ||| (~~~x &&& z)

/-- G, R123. -/
def mixG (x y z : Word) : Word := (x &&& z) ||| (y &&& ~~~z)

/-- H, R124. -/
def mixH (x y z : Word) : Word := x ^^^ y ^^^ z

/-- I, R125. -/
def mixI (x y z : Word) : Word := y ^^^ (x ||| ~~~z)

/-- fn(r), R88: the mixing function of a round. -/
def mixOfRound (round : BitVec 2) : Word → Word → Word → Word :=
  match round.toNat with
  | 0 => mixF
  | 1 => mixG
  | 2 => mixH
  | _ => mixI

/-- The left circular rotation of R121, for 1 ≤ s ≤ 31. -/
def rotl32 (x : Word) (s : Nat) : Word := (x <<< s) ||| (x >>> (32 - s))

/-- The step index STEP = {round, step in the round}, R88. -/
def stepIndex (round : BitVec 2) (j : BitVec 4) : BitVec 6 := round ++ j

/-- M[k(i)], R88: the message word of step i. -/
def messageWord (m : Vector Word 16) (i : BitVec 6) : Word := m[(romK i).toNat]

/-- The common step of R126 on the working registers: `x`, then `new`, then the four writes at once. -/
def stepWords (fn : Word → Word → Word → Word) (i : BitVec 6) (m : Vector Word 16) (r : Vector Word 4) : Vector Word 4 :=
  let x := r[0] + fn r[1] r[2] r[3] + messageWord m i + romT i
  let new := r[1] + rotl32 x (romS i)
  #v[r[3], new, r[1], r[2]]

end Sys2Proof.Machine
end

