-- ==== Sys2Proof/Machine/Ops.lean ====
section
/-! DEFINITION. The named operations the meanings share: register updates, the input memory (20_memory.md), the padder's functions
(R100, R101), the word decode (R110), entering ERROR (R103, R188), starting a computation (R160), the reset of the core (R51, R159,
R200), and the step of the compression function (R126). -/

namespace Sys2Proof.Machine

/-! ### Register updates -/

def State.setPhase (s : State) (v : Phase) : State := { s with phase := v }
def State.setStep (s : State) (v : BitVec 6) : State := { s with step := v }
def State.setBlk (s : State) (v : DWord) : State := { s with blk := v }
def State.setNblk (s : State) (v : DWord) : State := { s with nblk := v }
def State.setSrc (s : State) (v : DWord) : State := { s with src := v }
def State.setLen (s : State) (v : DWord) : State := { s with len := v }
def State.setIrqEn (s : State) (v : Bool) : State := { s with irqEn := v }
def State.setDigest (s : State) (v : Vector Word 4) : State := { s with digest := v }
def State.setH (s : State) (v : Vector Word 4) : State := { s with h := v }
def State.setR (s : State) (v : Vector Word 4) : State := { s with r := v }
def State.setM (s : State) (v : Vector Word 16) : State := { s with m := v }
def State.setInMem (s : State) (v : Memory) : State := { s with inMem := v }
def State.setMoves (s : State) (v : List Move) : State := { s with moves := v }
def State.setFreeIdx (s : State) (v : Nat) : State := { s with freeIdx := v }

/-- The three error flags of R32. -/
def State.setErrors (s : State) (tooLarge range busy : Bool) : State :=
  { s with errTooLarge := tooLarge, errRange := range, errBusy := busy }

/-- A read's answer on bus_rdata (R80, R150 to R158; log 2). -/
def State.respond (s : State) (w : Word) : State := { s with busRdata := some w }

/-- No read's answer stands on bus_rdata (log 2). -/
def State.noResponse (s : State) : State := { s with busRdata := none }

/-! ### The input memory -/

/-- The byte at an address. An address that is not listed reads as 0: DESIGN CHOICE (log 3). -/
def Memory.read : Memory → Nat → Byte
  | [], _ => 0
  | (a', b') :: m, a => if a = a' then b' else Memory.read m a

/-- The memory with one byte written, in its canonical form: rising addresses, and no entry for a byte that is 0. -/
def Memory.write : Memory → Nat → Byte → Memory
  | [], a, b => if b = 0 then [] else [(a, b)]
  | (a', b') :: m, a, b =>
    if a < a' then (if b = 0 then (a', b') :: m else (a, b) :: (a', b') :: m)
    else if a = a' then (if b = 0 then m else (a, b) :: m)
    else (a', b') :: Memory.write m a b

/-- The entries rise strictly from `lo` up and none is 0. -/
def Memory.wfFrom : Nat → Memory → Bool
  | _, [] => true
  | lo, (a, b) :: m => decide (lo ≤ a) && b != 0 && Memory.wfFrom (a + 1) m

/-- The canonical form. -/
def Memory.wf (m : Memory) : Bool := Memory.wfFrom 0 m

/-- MemRead(addr, 1), R61: one byte of InMem, without a side effect. -/
def State.memRead (s : State) (a : Nat) : Byte := Memory.read s.inMem a

/-- The address exists: InMem has ADDR_W-bit addresses (R60). -/
def State.inMemHas (s : State) (a : Nat) : Bool := decide (a < 2 ^ s.addrW)

/-- `a` is the address of a message byte, InMem[SRC + n] with n < LEN (R60, R72). -/
def State.isMessageByte (s : State) (a : Nat) : Bool :=
  decide (s.src.toNat ≤ a) && decide (a < s.src.toNat + s.len.toNat)

/-! ### The padder -/

/-- NBLK(L), R100. -/
def blockCount (l : Nat) : Nat := (l + 8) / 64 + 1

/-- N(L), R100. -/
def paddedLength (l : Nat) : Nat := 64 * blockCount l

/-- PAD's e1, R103 and R181: LEN ≥ 2^61. -/
def State.lenTooLarge (s : State) : Bool := decide (2 ^ 61 ≤ s.len.toNat)

/-- PAD's e2, R103 and R182: SRC + LEN > 2^ADDR_W, the exact sum. -/
def State.pastInMem (s : State) : Bool := decide (2 ^ s.addrW < s.src.toNat + s.len.toNat)

/-- Byte k of LE64(8·L): (8·L)[8k+7 : 8k], R101. -/
def trailerByte (l k : Nat) : Byte := BitVec.ofNat 8 ((8 * l) >>> (8 * k))

/-- P(n), R101: byte n of the padded message, for n < N(LEN). It is never stored (R62). -/
def State.paddedByte (s : State) (n : Nat) : Byte :=
  let l := s.len.toNat
  if n < l then s.memRead (s.src.toNat + n)
  else if n = l then 0x80
  else if n < paddedLength l - 8 then 0
  else trailerByte l (n - (paddedLength l - 8))

/-! ### The block iterator -/

/-- LE32, R11. -/
def le32 (b0 b1 b2 b3 : Byte) : Word :=
  b0.setWidth 32 ||| b1.setWidth 32 <<< 8 ||| b2.setWidth 32 <<< 16 ||| b3.setWidth 32 <<< 24

/-- W(b, j), R110: word j of block b. -/
def State.blockWord (s : State) (b j : Nat) : Word :=
  le32 (s.paddedByte (64 * b + 4 * j)) (s.paddedByte (64 * b + 4 * j + 1)) (s.paddedByte (64 * b + 4 * j + 2))
    (s.paddedByte (64 * b + 4 * j + 3))

/-- The sixteen words of block b, R111. -/
def State.blockWords (s : State) (b : Nat) : Vector Word 16 := Vector.ofFn fun j => s.blockWord b j

/-- Every message byte of block b has an address of InMem: those are SRC + n with 64b ≤ n < min(64b + 64, LEN), R113. -/
def State.blockInMem (s : State) (b : Nat) : Bool :=
  decide (s.len.toNat ≤ 64 * b) || decide (s.src.toNat + min (64 * b + 64) s.len.toNat ≤ 2 ^ s.addrW)

/-! ### Errors: the counterpart of taking an exception (R180) -/

/-- PAD's rejection, R103 and R188: the named flags are set (none is cleared) and the phase becomes ERROR. Nothing else changes. -/
def State.enterError (s : State) (tooLarge range : Bool) : State :=
  (s.setErrors (s.errTooLarge || tooLarge) (s.errRange || range) s.errBusy).setPhase .error

/-- ErrBusy, R183: the flag alone. -/
def State.noteBusy (s : State) : State := s.setErrors s.errTooLarge s.errRange true

/-- An accepted START, R160: the return from ERROR (R189) and from DONE, and the entry of every computation (R201). -/
def State.acceptStart (s : State) : State :=
  (((((s.setErrors false false false).setH iv).setBlk 0).setStep 0).setNblk 0).setPhase .padding

/-- Four free words (log 5). -/
def freeWords4 (n : Nat) : Vector Word 4 := Vector.ofFn fun j => Config.freeWord (n + j)

/-- Sixteen free words (log 5). -/
def freeWords16 (n : Nat) : Vector Word 16 := Vector.ofFn fun j => Config.freeWord (n + j)

/-- Every state element of the core takes its reset value of R51 (R159, R200). H, r and M become unspecified: free words (log 5).
InMem is no element of the core (R60) and stays. -/
def State.resetCore (s : State) : State :=
  { s with
    phase := .idle
    step := 0
    blk := 0
    nblk := 0
    src := 0
    len := 0
    irqEn := false
    errTooLarge := false
    errRange := false
    errBusy := false
    digest := #v[0, 0, 0, 0]
    h := freeWords4 s.freeIdx
    r := freeWords4 (s.freeIdx + 4)
    m := freeWords16 (s.freeIdx + 8)
    freeIdx := s.freeIdx + 24 }

/-! ### The compression function -/

/-- STEP(i) of R126, then the sequencer's move of R127 to R130: step 63 leaves the round, any other goes on. -/
def State.compressStep (s : State) (fn : Word → Word → Word → Word) (i : BitVec 6) : State :=
  let t := s.setR (stepWords fn i s.m s.r)
  if i = 63 then (t.setStep 0).setPhase .iterFeed else t.setStep (i + 1)

/-- Word-by-word addition mod 2^32 of four words, R132. -/
def addWords (x y : Vector Word 4) : Vector Word 4 := Vector.ofFn fun j => x[j] + y[j]

end Sys2Proof.Machine
end

