-- ==== Sys2Proof/Machine/BlockIterator.lean ====
section
/-! DEFINITION. The Block Iterator's micro-op, R111. -/

namespace Sys2Proof.Machine

open Host (Outcome)

/-- LOAD, R111: M takes the words of block BLK, r takes H, STEP becomes 0. It stands under R111's "0 <= b < NBLK" (W(b, j) is defined
there alone, R110) and under PAD's range check (R111, "PAD has checked"); a state no run reaches that breaks one of them faults
(log 10). -/
def execLoad (s : State) : Outcome State Fault Refusal :=
  if s.blk.toNat < blockCount s.len.toNat then
    if s.blockInMem s.blk.toNat then
      .next ((((s.setM (s.blockWords s.blk.toNat)).setR s.h).setStep 0).setPhase .iterRound)
    else .fault .inMemAddress
  else .fault .blockIndex

end Sys2Proof.Machine
end

