-- ==== Sys2Proof/Machine/Compression.lean ====
section
/-! DEFINITION. The Compression Round's micro-ops: one step of each of the four rounds (R127 to R130) and the feed-forward with the
block loop's end test (R132). -/

namespace Sys2Proof.Machine

open Host (Outcome)

/-- STEP_F, R127: steps 0 to 15. -/
def execStepF (j : BitVec 4) (s : State) : Outcome State Fault Refusal := .next (s.compressStep mixF (stepIndex 0 j))

/-- STEP_G, R128: steps 16 to 31. -/
def execStepG (j : BitVec 4) (s : State) : Outcome State Fault Refusal := .next (s.compressStep mixG (stepIndex 1 j))

/-- STEP_H, R129: steps 32 to 47. -/
def execStepH (j : BitVec 4) (s : State) : Outcome State Fault Refusal := .next (s.compressStep mixH (stepIndex 2 j))

/-- STEP_I, R130: steps 48 to 63. -/
def execStepI (j : BitVec 4) (s : State) : Outcome State Fault Refusal := .next (s.compressStep mixI (stepIndex 3 j))

/-- FEED, R132: r is added into H, BLK is incremented, and the incremented BLK is compared with NBLK. -/
def execFeed (s : State) : Outcome State Fault Refusal :=
  .next (((s.setH (addWords s.h s.r)).setBlk (s.blk + 1)).setPhase
    (if (s.blk + 1).toNat < s.nblk.toNat then .iterLoad else .finalizing))

end Sys2Proof.Machine
end

