-- ==== Sys2Proof/Machine/Finalizer.lean ====
section
/-! DEFINITION. The Finalizer's micro-op (R140) and the digest's byte order (R141). -/

namespace Sys2Proof.Machine

open Host (Outcome)

/-- FINAL, R140: DIGEST takes H, with no further addition. -/
def execFinal (s : State) : Outcome State Fault Refusal := .next ((s.setDigest s.h).setPhase .done)

/-- Byte t of a word in little-endian order: bits 8t+7 : 8t (R64, R141). -/
def wordByte (w : Word) (t : Nat) : Byte := w.extractLsb' (8 * t) 8

/-- d[n] of a digest's four words, R141: d[4j + t] = DIGEST[j][8t + 7 : 8t]. -/
def digestByte (d : Vector Word 4) (n : Fin 16) : Byte := wordByte d[n.val / 4] (n.val % 4)

/-- The digest's sixteen bytes in order, R141. -/
def digestBytes (d : Vector Word 4) : List Byte := List.ofFn (digestByte d)

end Sys2Proof.Machine
end

