-- ==== Sys2Proof/Machine/HostReads.lean ====
section
/-! DEFINITION. The host's reads, R150 to R158: each answers one word on bus_rdata and changes nothing else (R68). -/

namespace Sys2Proof.Machine

open Host (Outcome)

/-- RD_CTRL, R150. -/
def execRdCtrl (s : State) : Outcome State Fault Refusal := .next (s.respond s.ctrlWord)

/-- RD_STATUS, R151. -/
def execRdStatus (s : State) : Outcome State Fault Refusal := .next (s.respond s.statusWord)

/-- RD_SRC, R152. -/
def execRdSrc (hi : Bool) (s : State) : Outcome State Fault Refusal := .next (s.respond (half hi s.src))

/-- RD_LEN, R153. -/
def execRdLen (hi : Bool) (s : State) : Outcome State Fault Refusal := .next (s.respond (half hi s.len))

/-- RD_NBLK, R154. -/
def execRdNblk (hi : Bool) (s : State) : Outcome State Fault Refusal := .next (s.respond (half hi s.nblk))

/-- RD_BLK, R155. -/
def execRdBlk (hi : Bool) (s : State) : Outcome State Fault Refusal := .next (s.respond (half hi s.blk))

/-- RD_STEP, R156: bits 5:0 STEP, bits 31:6 zero. -/
def execRdStep (s : State) : Outcome State Fault Refusal := .next (s.respond (s.step.setWidth 32))

/-- RD_RSVD, R157. -/
def execRdRsvd (s : State) : Outcome State Fault Refusal := .next (s.respond 0)

/-- RD_DIGEST, R158. -/
def execRdDigest (n : BitVec 2) (s : State) : Outcome State Fault Refusal := .next (s.respond s.digest[n.toNat])

end Sys2Proof.Machine
end

