-- ==== Sys2Proof/Machine/HostWrites.lean ====
section
/-! DEFINITION. The host's writes, R159 to R169. -/

namespace Sys2Proof.Machine

open Host (Outcome)

/-- WR_CTRL_CLEAR, R159: the reset of the core, in every phase; the other bits of DATA are ignored. -/
def execWrCtrlClear (_data : Word) (s : State) : Outcome State Fault Refusal := .next s.resetCore

/-- WR_CTRL_START, R160: IRQ_EN is written in every phase; the START is ignored with ERR_BUSY while BUSY and accepted otherwise. -/
def execWrCtrlStart (data : Word) (s : State) : Outcome State Fault Refusal :=
  let t := s.setIrqEn (ctrlIrqEn data)
  .next (if s.busy then t.noteBusy else t.acceptStart)

/-- WR_CTRL_CFG, R161. -/
def execWrCtrlCfg (data : Word) (s : State) : Outcome State Fault Refusal := .next (s.setIrqEn (ctrlIrqEn data))

/-- WR_STATUS, R162: ignored, with no flag. -/
def execWrStatus (_data : Word) (s : State) : Outcome State Fault Refusal := .next s

/-- WR_SRC, R163: the bits from ADDR_W up are stored as 0 (WARL, R29). -/
def execWrSrc (hi : Bool) (data : Word) (s : State) : Outcome State Fault Refusal :=
  .next (if s.busy then s.noteBusy
    else s.setSrc (BitVec.ofNat 64 ((insertHalf hi s.src data).toNat % 2 ^ s.addrW)))

/-- WR_LEN, R164. -/
def execWrLen (hi : Bool) (data : Word) (s : State) : Outcome State Fault Refusal :=
  .next (if s.busy then s.noteBusy else s.setLen (insertHalf hi s.len data))

/-- WR_NBLK, R165: ignored. -/
def execWrNblk (_hi : Bool) (_data : Word) (s : State) : Outcome State Fault Refusal := .next s

/-- WR_BLK, R166: ignored. -/
def execWrBlk (_hi : Bool) (_data : Word) (s : State) : Outcome State Fault Refusal := .next s

/-- WR_STEP, R167: ignored. -/
def execWrStep (_data : Word) (s : State) : Outcome State Fault Refusal := .next s

/-- WR_RSVD, R168: ignored. -/
def execWrRsvd (_data : Word) (s : State) : Outcome State Fault Refusal := .next s

/-- WR_DIGEST, R169: ignored. -/
def execWrDigest (_n : BitVec 2) (_data : Word) (s : State) : Outcome State Fault Refusal := .next s

end Sys2Proof.Machine
end

