-- ==== Sys2Proof/Machine/Padder.lean ====
section
/-! DEFINITION. The Padder's micro-op, R103. -/

namespace Sys2Proof.Machine

open Host (Outcome)

/-- PAD, R103: both input checks are evaluated (R187). Either rejects the computation; otherwise NBLK is computed and the iteration
begins. -/
def execPad (s : State) : Outcome State Fault Refusal :=
  .next (if s.lenTooLarge || s.pastInMem then s.enterError s.lenTooLarge s.pastInMem
    else (s.setNblk (BitVec.ofNat 64 (blockCount s.len.toNat))).setPhase .iterLoad)

end Sys2Proof.Machine
end

