-- ==== Sys2Proof/Syntax.lean ====
section
/-! DEFINITION. The operations of the MD5 core, one constructor for each row of spec/opcode_table.json: the 20 host
transactions of R82 and the 8 micro-ops of R86. -/

namespace Sys2Proof

/-- An operation of the machine. `hi` is the field HI = ADDR[2] (the high half of a 64-bit register), `n` the field
N = ADDR[3:2] (which DIGEST word), `data` the field DATA of the descriptor (R81, R82). `j` is STEP[3:0], the step within its
round (R26); the round STEP[5:4] is fixed by the constructor (R86). A read's DATA and the STEP bits of PAD, LOAD, FEED and FINAL
are ignored by the decode (R81, R86), so no constructor carries them. -/
inductive Instr where
  /-- R150 -/
  | rdCtrl
  /-- R151 -/
  | rdStatus
  /-- R152 -/
  | rdSrc (hi : Bool)
  /-- R153 -/
  | rdLen (hi : Bool)
  /-- R154 -/
  | rdNblk (hi : Bool)
  /-- R155 -/
  | rdBlk (hi : Bool)
  /-- R156 -/
  | rdStep
  /-- R157 -/
  | rdRsvd
  /-- R158 -/
  | rdDigest (n : BitVec 2)
  /-- R159 -/
  | wrCtrlClear (data : Word)
  /-- R160 -/
  | wrCtrlStart (data : Word)
  /-- R161 -/
  | wrCtrlCfg (data : Word)
  /-- R162 -/
  | wrStatus (data : Word)
  /-- R163 -/
  | wrSrc (hi : Bool) (data : Word)
  /-- R164 -/
  | wrLen (hi : Bool) (data : Word)
  /-- R165 -/
  | wrNblk (hi : Bool) (data : Word)
  /-- R166 -/
  | wrBlk (hi : Bool) (data : Word)
  /-- R167 -/
  | wrStep (data : Word)
  /-- R168 -/
  | wrRsvd (data : Word)
  /-- R169 -/
  | wrDigest (n : BitVec 2) (data : Word)
  /-- R103 -/
  | pad
  /-- R111 -/
  | load
  /-- R127 -/
  | stepF (j : BitVec 4)
  /-- R128 -/
  | stepG (j : BitVec 4)
  /-- R129 -/
  | stepH (j : BitVec 4)
  /-- R130 -/
  | stepI (j : BitVec 4)
  /-- R132 -/
  | feed
  /-- R140 -/
  | final
  deriving DecidableEq, Repr

end Sys2Proof
end

