-- ==== Sys2Proof/Machine/Dispatch.lean ====
section
/-! DEFINITION. One arm per operation of Instr: each calls the meaning of its row. -/

namespace Sys2Proof.Machine

def exec (i : Instr) (s : State) : Host.Outcome State Fault Refusal :=
  match i with
  | .rdCtrl => Sys2Proof.Machine.execRdCtrl s
  | .rdStatus => Sys2Proof.Machine.execRdStatus s
  | .rdSrc hi => Sys2Proof.Machine.execRdSrc hi s
  | .rdLen hi => Sys2Proof.Machine.execRdLen hi s
  | .rdNblk hi => Sys2Proof.Machine.execRdNblk hi s
  | .rdBlk hi => Sys2Proof.Machine.execRdBlk hi s
  | .rdStep => Sys2Proof.Machine.execRdStep s
  | .rdRsvd => Sys2Proof.Machine.execRdRsvd s
  | .rdDigest n => Sys2Proof.Machine.execRdDigest n s
  | .wrCtrlClear data => Sys2Proof.Machine.execWrCtrlClear data s
  | .wrCtrlStart data => Sys2Proof.Machine.execWrCtrlStart data s
  | .wrCtrlCfg data => Sys2Proof.Machine.execWrCtrlCfg data s
  | .wrStatus data => Sys2Proof.Machine.execWrStatus data s
  | .wrSrc hi data => Sys2Proof.Machine.execWrSrc hi data s
  | .wrLen hi data => Sys2Proof.Machine.execWrLen hi data s
  | .wrNblk hi data => Sys2Proof.Machine.execWrNblk hi data s
  | .wrBlk hi data => Sys2Proof.Machine.execWrBlk hi data s
  | .wrStep data => Sys2Proof.Machine.execWrStep data s
  | .wrRsvd data => Sys2Proof.Machine.execWrRsvd data s
  | .wrDigest n data => Sys2Proof.Machine.execWrDigest n data s
  | .pad => Sys2Proof.Machine.execPad s
  | .load => Sys2Proof.Machine.execLoad s
  | .stepF j => Sys2Proof.Machine.execStepF j s
  | .stepG j => Sys2Proof.Machine.execStepG j s
  | .stepH j => Sys2Proof.Machine.execStepH j s
  | .stepI j => Sys2Proof.Machine.execStepI j s
  | .feed => Sys2Proof.Machine.execFeed s
  | .final => Sys2Proof.Machine.execFinal s

end Sys2Proof.Machine
end

