-- ==== Sys2Proof/WellFormed.lean ====
section
/-! DEFINITION. Which terms of Instr spell an operation. Every operand but the DATA of a CTRL write takes every value its type
has; the DATA of a CTRL write is what selects among the three rows (R82, R84). -/

namespace Sys2Proof

/-- The data conditions of R82's table (column "data condition") and R84. -/
def Instr.wellFormed : Instr → Bool
  | .wrCtrlClear data => data.getLsbD 1
  | .wrCtrlStart data => !data.getLsbD 1 && data.getLsbD 0
  | .wrCtrlCfg data => !data.getLsbD 1 && !data.getLsbD 0
  | .rdCtrl | .rdStatus | .rdSrc _ | .rdLen _ | .rdNblk _ | .rdBlk _ | .rdStep | .rdRsvd | .rdDigest _ => true
  | .wrStatus _ | .wrSrc _ _ | .wrLen _ _ | .wrNblk _ _ | .wrBlk _ _ | .wrStep _ | .wrRsvd _ | .wrDigest _ _ => true
  | .pad | .load | .stepF _ | .stepG _ | .stepH _ | .stepI _ | .feed | .final => true

end Sys2Proof
end

