-- ==== Sys2Proof/Decode.lean ====
section
/-! DEFINITION. The two encodings of 30_encoding.md: the 40-bit transaction descriptor (R81 to R84) and the 9-bit micro-op word
(R85 to R87). Each is decoded from the spec's own table of mask and match; the encoder is written from the same tables. -/

namespace Sys2Proof

/-! ### The fields of a descriptor, R81 and R82 -/

/-- WE: 1 = write, 0 = read. -/
def descWe (d : Desc) : Bool := d.getLsbD 39

/-- Z: must be 0. -/
def descZ (d : Desc) : Bool := d.getLsbD 38

/-- ADDR: the byte offset in the window. -/
def descAddr (d : Desc) : BitVec 6 := d.extractLsb' 32 6

/-- DATA: the write data. -/
def descData (d : Desc) : Word := d.extractLsb' 0 32

/-- HI = ADDR[2]. -/
def descHi (d : Desc) : Bool := d.getLsbD 34

/-- N = ADDR[3:2]. -/
def descN (d : Desc) : BitVec 2 := d.extractLsb' 34 2

/-- A descriptor of a 32-bit access is legal when Z = 0 and ADDR[1:0] = 0 (R82, R83). -/
def descLegal (d : Desc) : Bool := !descZ d && !d.getLsbD 33 && !d.getLsbD 32

/-! ### The descriptor table, R82 -/

/-- A row of R82: it applies to `d` when `d &&& mask = pattern` (the spec's `match`). -/
structure DescRow where
  mask : Desc
  pattern : Desc
  build : Desc → Instr

/-- The row applies to the descriptor. -/
def DescRow.applies (row : DescRow) (d : Desc) : Bool := d &&& row.mask == row.pattern

/-- R82's rows of reads. -/
def readRows : List DescRow := [
  ⟨0xFF00000000, 0x0000000000, fun _ => .rdCtrl⟩,
  ⟨0xFF00000000, 0x0400000000, fun _ => .rdStatus⟩,
  ⟨0xFB00000000, 0x0800000000, fun d => .rdSrc (descHi d)⟩,
  ⟨0xFB00000000, 0x1000000000, fun d => .rdLen (descHi d)⟩,
  ⟨0xFB00000000, 0x1800000000, fun d => .rdNblk (descHi d)⟩,
  ⟨0xFB00000000, 0x2000000000, fun d => .rdBlk (descHi d)⟩,
  ⟨0xFF00000000, 0x2800000000, fun _ => .rdStep⟩,
  ⟨0xFF00000000, 0x2C00000000, fun _ => .rdRsvd⟩,
  ⟨0xF300000000, 0x3000000000, fun d => .rdDigest (descN d)⟩]

/-- R82's rows of CTRL writes: DATA[1:0] selects among them (R84). -/
def ctrlRows : List DescRow := [
  ⟨0xFF00000002, 0x8000000002, fun d => .wrCtrlClear (descData d)⟩,
  ⟨0xFF00000003, 0x8000000001, fun d => .wrCtrlStart (descData d)⟩,
  ⟨0xFF00000003, 0x8000000000, fun d => .wrCtrlCfg (descData d)⟩]

/-- R82's rows of the other writes. -/
def writeRows : List DescRow := [
  ⟨0xFF00000000, 0x8400000000, fun d => .wrStatus (descData d)⟩,
  ⟨0xFB00000000, 0x8800000000, fun d => .wrSrc (descHi d) (descData d)⟩,
  ⟨0xFB00000000, 0x9000000000, fun d => .wrLen (descHi d) (descData d)⟩,
  ⟨0xFB00000000, 0x9800000000, fun d => .wrNblk (descHi d) (descData d)⟩,
  ⟨0xFB00000000, 0xA000000000, fun d => .wrBlk (descHi d) (descData d)⟩,
  ⟨0xFF00000000, 0xA800000000, fun d => .wrStep (descData d)⟩,
  ⟨0xFF00000000, 0xAC00000000, fun d => .wrRsvd (descData d)⟩,
  ⟨0xF300000000, 0xB000000000, fun d => .wrDigest (descN d) (descData d)⟩]

/-- The descriptor table of R82. -/
def descTable : List DescRow := readRows ++ ctrlRows ++ writeRows

/-- The decode of a 32-bit access's descriptor: the row of R82 that applies, or none for an illegal descriptor (R83). -/
def decodeDesc (d : Desc) : Option Instr :=
  (descTable.find? fun row => row.applies d).map fun row => row.build d

/-! ### The micro-op table, R86 -/

/-- STEP[3:0] of a micro-op word. -/
def microJ (w : MicroWord) : BitVec 4 := w.extractLsb' 0 4

/-- A row of R86: it applies to `w` when `w &&& mask = pattern`. -/
structure MicroRow where
  mask : MicroWord
  pattern : MicroWord
  build : MicroWord → Instr

/-- The row applies to the micro-op word. -/
def MicroRow.applies (row : MicroRow) (w : MicroWord) : Bool := w &&& row.mask == row.pattern

/-- The micro-op table of R86. -/
def microTable : List MicroRow := [
  ⟨0x1C0, 0x040, fun _ => .pad⟩,
  ⟨0x1C0, 0x080, fun _ => .load⟩,
  ⟨0x1F0, 0x0C0, fun w => .stepF (microJ w)⟩,
  ⟨0x1F0, 0x0D0, fun w => .stepG (microJ w)⟩,
  ⟨0x1F0, 0x0E0, fun w => .stepH (microJ w)⟩,
  ⟨0x1F0, 0x0F0, fun w => .stepI (microJ w)⟩,
  ⟨0x1C0, 0x100, fun _ => .feed⟩,
  ⟨0x1C0, 0x140, fun _ => .final⟩]

/-- The micro-op a micro-op word selects. None is no error: the core is quiescent, in IDLE, DONE or ERROR (R87). -/
def decodeMicro (w : MicroWord) : Option Instr :=
  (microTable.find? fun row => row.applies w).map fun row => row.build w

/-! ### The encoder -/

/-- The two kinds of word of R93: a descriptor of 40 bits and a micro-op word of 9 bits. -/
inductive Encoding where
  | desc (d : Desc)
  | micro (w : MicroWord)
  deriving DecidableEq, Repr

/-- A descriptor from its fields, with Z = 0 (R81). -/
def mkDesc (we : Bool) (addr : BitVec 6) (data : Word) : Desc := (BitVec.ofBool we ++ 0#1 ++ addr) ++ data

/-- A read's descriptor: its DATA is written as 0 (R81). -/
def readDesc (addr : BitVec 6) : Desc := mkDesc false addr 0

/-- A write's descriptor. -/
def writeDesc (addr : BitVec 6) (data : Word) : Desc := mkDesc true addr data

/-- The offset of a 64-bit register's half, HI = ADDR[2]. -/
def halfAddr (lo : BitVec 6) (hi : Bool) : BitVec 6 := if hi then lo + 4 else lo

/-- The offset of DIGEST word n, N = ADDR[3:2]. -/
def digestAddr (n : BitVec 2) : BitVec 6 := 0b11#2 ++ n ++ 0b00#2

/-- A STEP micro-op's word: PHASE = 3, STEP = the round and the step within it (R86). -/
def stepWord (round : BitVec 2) (j : BitVec 4) : MicroWord := 3#3 ++ round ++ j

/-- The words of an operation, from the offsets of R82 and the words of R86. -/
def encode : Instr → Encoding
  | .rdCtrl => .desc (readDesc 0x00)
  | .rdStatus => .desc (readDesc 0x04)
  | .rdSrc hi => .desc (readDesc (halfAddr 0x08 hi))
  | .rdLen hi => .desc (readDesc (halfAddr 0x10 hi))
  | .rdNblk hi => .desc (readDesc (halfAddr 0x18 hi))
  | .rdBlk hi => .desc (readDesc (halfAddr 0x20 hi))
  | .rdStep => .desc (readDesc 0x28)
  | .rdRsvd => .desc (readDesc 0x2C)
  | .rdDigest n => .desc (readDesc (digestAddr n))
  | .wrCtrlClear data => .desc (writeDesc 0x00 data)
  | .wrCtrlStart data => .desc (writeDesc 0x00 data)
  | .wrCtrlCfg data => .desc (writeDesc 0x00 data)
  | .wrStatus data => .desc (writeDesc 0x04 data)
  | .wrSrc hi data => .desc (writeDesc (halfAddr 0x08 hi) data)
  | .wrLen hi data => .desc (writeDesc (halfAddr 0x10 hi) data)
  | .wrNblk hi data => .desc (writeDesc (halfAddr 0x18 hi) data)
  | .wrBlk hi data => .desc (writeDesc (halfAddr 0x20 hi) data)
  | .wrStep data => .desc (writeDesc 0x28 data)
  | .wrRsvd data => .desc (writeDesc 0x2C data)
  | .wrDigest n data => .desc (writeDesc (digestAddr n) data)
  | .pad => .micro 0x040
  | .load => .micro 0x080
  | .stepF j => .micro (stepWord 0 j)
  | .stepG j => .micro (stepWord 1 j)
  | .stepH j => .micro (stepWord 2 j)
  | .stepI j => .micro (stepWord 3 j)
  | .feed => .micro 0x100
  | .final => .micro 0x140

/-- The decode of either kind of word. -/
def decode : Encoding → Option Instr
  | .desc d => decodeDesc d
  | .micro w => decodeMicro w

/-! ### The host's numbering of spec/opcode_table.json -/

/-- The table gives its HOSTTX rows 40 bits and its USEQ rows 9 (16 in whole bytes): a word of fewer than 40 bits is a micro-op
word, any other a descriptor. A bit above the word's own width is no bit of an operation. -/
def decodeTableWord (nbits w : Nat) : Option Instr :=
  if nbits < 40 then
    if w < 2 ^ 9 then decodeMicro (BitVec.ofNat 9 w) else none
  else
    if w < 2 ^ 40 then decodeDesc (BitVec.ofNat 40 w) else none

end Sys2Proof
end

