-- ==== Sys2Proof/Machine/Fetch.lean ====
section
/-! DEFINITION. Which agent moves next and what it does (R20, R67): the counterpart of an instruction fetch (R46). A turn of the core
takes the micro-op its own micro-op word selects (R85, R86); a turn of the bus takes the operation its descriptor spells (R82); the
reset line and the host's writes of InMem have turns of their own. -/

namespace Sys2Proof.Machine

/-- What a turn comes to: an operation to run from a state, a turn already settled, or a stop. -/
inductive Turn where
  | run (i : Instr) (s : State)
  | settled (s : State)
  | fault (f : Fault)
  | refused (r : Refusal)
  deriving DecidableEq, Repr

/-- The core's turn: its next micro-op, or nothing when it is quiescent (R87, 93 U13; log 11). -/
def coreTurn (s : State) : Turn :=
  match decodeMicro s.microWord with
  | some i => .run i s
  | none => .settled s

/-- The bus admits an aligned 32-bit access with Z = 0 (R66, R83). -/
def BusReq.admitted (req : BusReq) : Bool := req.width == 32 && descLegal req.desc

/-- The bus's turn: an access that is not admitted is refused (R66, R83, R184; log 8). -/
def busTurn (req : BusReq) (s : State) : Turn :=
  if req.width = 32 then
    match decodeDesc req.desc with
    | some i => .run i s
    | none => .refused .busError
  else .refused .busError

/-- The host's write of a byte of InMem, outside the block (R60, R71). It has no move that changes a message byte while the core is
BUSY (R72; log 9). -/
def memWriteTurn (a : Nat) (b : Byte) (s : State) : Turn :=
  if s.inMemHas a then
    if s.busy && s.isMessageByte a && s.memRead a != b then .refused .messageChangedWhileBusy
    else .settled (s.setInMem (Memory.write s.inMem a b))
  else .fault .inMemAddress

/-- The state with its next turn taken off the interleaving. No answer stands on bus_rdata as a turn begins (log 2). -/
def State.takeTurn (s : State) : State := (s.setMoves s.moves.tail).noResponse

/-- The next turn of the interleaving; with none listed, the core's (log 1). -/
def fetch (s : State) : Turn :=
  match s.moves.head? with
  | none => coreTurn s.takeTurn
  | some .core => coreTurn s.takeTurn
  | some (.bus req) => busTurn req s.takeTurn
  | some .rst => .settled s.takeTurn.resetCore
  | some (.memWrite a b) => memWriteTurn a b s.takeTurn

/-- The state whose next turn runs the operation of a word of spec/opcode_table.json (log 17, log 19): a micro-op word is {PHASE, STEP}
and the turn is the core's (R85); a descriptor is the host's next transaction (R81). -/
def State.placeWord (s : State) (nbits w : Nat) : State :=
  if nbits < 40 then
    let word := BitVec.ofNat 9 w
    ((s.setPhase (Phase.ofCode (word.extractLsb' 6 3))).setStep (word.extractLsb' 0 6)).setMoves (.core :: s.moves)
  else s.setMoves (.bus ⟨32, BitVec.ofNat 40 w⟩ :: s.moves)

end Sys2Proof.Machine
end

