-- ==== Sys2Proof/Machine/Step.lean ====
section
/-! DEFINITION. One step of the machine: the next turn of the interleaving (R67). -/

namespace Sys2Proof.Machine

/-- One atomic step: the turn's operation is run, or the turn is settled, or the machine stops. -/
def step (s : State) : Host.Outcome State Fault Refusal :=
  match fetch s with
  | .run i t => exec i t
  | .settled t => .next t
  | .fault f => .fault f
  | .refused r => .refused r

/-- The state in which the next step runs the operation of a word of spec/opcode_table.json (log 17). -/
def State.withFetchWord (s : State) (nbits w : Nat) : State := s.placeWord nbits w

end Sys2Proof.Machine
end

