-- ==== Sys2Proof/Machine/Notation.lean ====
section
/-! DEFINITION. The host-program notation of R95: register names, WR and RD lines as descriptors (R81), the pseudo-instructions'
expansions, and the host sequence of a transform (R170). -/

namespace Sys2Proof.Machine

/-- The register names of R95. -/
inductive RegName where
  | ctrl
  | status
  | srcLo
  | srcHi
  | lenLo
  | lenHi
  | nblkLo
  | nblkHi
  | blkLo
  | blkHi
  | step
  | rsvd
  | digest0
  | digest1
  | digest2
  | digest3
  deriving DecidableEq, Repr

/-- The byte offset of a register, R36. -/
def RegName.offset : RegName → BitVec 6
  | .ctrl => 0x00
  | .status => 0x04
  | .srcLo => 0x08
  | .srcHi => 0x0C
  | .lenLo => 0x10
  | .lenHi => 0x14
  | .nblkLo => 0x18
  | .nblkHi => 0x1C
  | .blkLo => 0x20
  | .blkHi => 0x24
  | .step => 0x28
  | .rsvd => 0x2C
  | .digest0 => 0x30
  | .digest1 => 0x34
  | .digest2 => 0x38
  | .digest3 => 0x3C

/-- `WR <reg>, <value>`, R95. -/
def wrLine (reg : RegName) (value : Word) : Desc := writeDesc reg.offset value

/-- `RD <reg>`, R95. -/
def rdLine (reg : RegName) : Desc := readDesc reg.offset

/-- `START`. -/
def pseudoStart : List Desc := [wrLine .ctrl 0x00000001]

/-- `START_IRQ`. -/
def pseudoStartIrq : List Desc := [wrLine .ctrl 0x00000005]

/-- `CLEAR`. -/
def pseudoClear : List Desc := [wrLine .ctrl 0x00000002]

/-- `SETSRC v`. -/
def pseudoSetSrc (v : DWord) : List Desc := [wrLine .srcLo (v.extractLsb' 0 32), wrLine .srcHi (v.extractLsb' 32 32)]

/-- `SETLEN v`. -/
def pseudoSetLen (v : DWord) : List Desc := [wrLine .lenLo (v.extractLsb' 0 32), wrLine .lenHi (v.extractLsb' 32 32)]

/-- `WAIT`, as `n` reads of STATUS: the model gives no bound on the count (R95, 93 U9). -/
def pseudoWait (n : Nat) : List Desc := List.replicate n (rdLine .status)

/-- `RDDIGEST`. -/
def pseudoRdDigest : List Desc := [rdLine .digest0, rdLine .digest1, rdLine .digest2, rdLine .digest3]

/-- A line as a turn of the bus: a 32-bit access (R81). -/
def lineTurn (d : Desc) : Move := .bus ⟨32, d⟩

/-- `SETSRC s; SETLEN L; START; WAIT; RDDIGEST`, R170, with `n` reads of STATUS; the core's turns run in between, in any order. -/
def transformLines (src len : DWord) (n : Nat) : List Desc :=
  pseudoSetSrc src ++ pseudoSetLen len ++ pseudoStart ++ pseudoWait n ++ pseudoRdDigest

end Sys2Proof.Machine
end

