-- ==== Sys2Proof/Machine/Transform.lean ====
section
/-! DEFINITION. The function the core computes, as a function of the message's bytes alone: the padded message as a sequence of bytes
(R92), its blocks (R110), the compression function and the chaining values (R133), the transform (R143), and RFC 1321's form of a step
(R131). No step uses it; statements compare the machine with it. -/

namespace Sys2Proof.Machine

/-- LE64 of a number, R11. -/
def le64Bytes (v : Nat) : List Byte := (List.range 8).map fun k => BitVec.ofNat 8 (v >>> (8 * k))

/-- The padded message, R92: the message, 0x80, zeros up to byte N−9, and LE64(8·L). -/
def paddedMessage (msg : List Byte) : List Byte :=
  msg ++ [0x80] ++ List.replicate (paddedLength msg.length - msg.length - 9) 0 ++ le64Bytes (8 * msg.length)

/-- Word j of block b of a padded message: bytes 64b+4j .. 64b+4j+3, little-endian (R92, R110). -/
def messageBlockWord (p : List Byte) (b j : Nat) : Word :=
  le32 (p.getD (64 * b + 4 * j) 0) (p.getD (64 * b + 4 * j + 1) 0) (p.getD (64 * b + 4 * j + 2) 0)
    (p.getD (64 * b + 4 * j + 3) 0)

/-- The sixteen words of block b of a padded message. -/
def messageBlock (p : List Byte) (b : Nat) : Vector Word 16 := Vector.ofFn fun j => messageBlockWord p b j

/-- STEP(i) of R126 with the mixing function of i's round, R88. -/
def plainStep (m : Vector Word 16) (i : BitVec 6) (r : Vector Word 4) : Vector Word 4 :=
  stepWords (mixOfRound (i.extractLsb' 4 2)) i m r

/-- The working registers after the first n steps of a block, R133. -/
def roundsTo (m : Vector Word 16) (r : Vector Word 4) : Nat → Vector Word 4
  | 0 => r
  | n + 1 => plainStep m (BitVec.ofNat 6 n) (roundsTo m r n)

/-- C(H, M), R133. -/
def compress (h : Vector Word 4) (m : Vector Word 16) : Vector Word 4 := addWords h (roundsTo m h 64)

/-- H_b, R133: the chaining value before block b of a padded message. -/
def chainValue (p : List Byte) : Nat → Vector Word 4
  | 0 => iv
  | b + 1 => compress (chainValue p b) (messageBlock p b)

/-- The digest's four words of a message, R133 and R143. -/
def transform (msg : List Byte) : Vector Word 4 := chainValue (paddedMessage msg) (blockCount msg.length)

/-- The register RFC 1321's step i updates, R131: (a, d, c, b)[i mod 4]. -/
def rfcTarget (i : BitVec 6) : Nat :=
  match i.toNat % 4 with
  | 0 => 0
  | 1 => 3
  | 2 => 2
  | _ => 1

/-- RFC 1321's step i, R131 and R96: the register `rfcTarget i` is updated in place, and the three after it, cyclically, stand for
(b, c, d). -/
def rfcStep (m : Vector Word 16) (i : BitVec 6) (r : Vector Word 4) : Vector Word 4 :=
  let q := rfcTarget i
  let b := r.getD ((q + 1) % 4) 0
  let x := r.getD q 0 + mixOfRound (i.extractLsb' 4 2) b (r.getD ((q + 2) % 4) 0) (r.getD ((q + 3) % 4) 0)
    + messageWord m i + romT i
  r.setIfInBounds q (b + rotl32 x (romS i))

/-- RFC 1321's registers after the first n steps of a block. -/
def rfcRoundsTo (m : Vector Word 16) (r : Vector Word 4) : Nat → Vector Word 4
  | 0 => r
  | n + 1 => rfcStep m (BitVec.ofNat 6 n) (rfcRoundsTo m r n)

end Sys2Proof.Machine
end

