-- ==== Sys2Proof/Machine/Window.lean ====
section
/-! DEFINITION. The register window as the host sees it (R36): the word at each of its sixteen offsets, and its bytes in the window's
little-endian order (R64). Reading it has no side effect, so these are functions of the state. -/

namespace Sys2Proof.Machine

/-- The word at byte offset 4·idx of the window, R36. -/
def State.windowWord (s : State) (idx : BitVec 4) : Word :=
  match idx.toNat with
  | 0 => s.ctrlWord
  | 1 => s.statusWord
  | 2 => half false s.src
  | 3 => half true s.src
  | 4 => half false s.len
  | 5 => half true s.len
  | 6 => half false s.nblk
  | 7 => half true s.nblk
  | 8 => half false s.blk
  | 9 => half true s.blk
  | 10 => s.step.setWidth 32
  | 11 => 0
  | 12 => s.digest[0]
  | 13 => s.digest[1]
  | 14 => s.digest[2]
  | _ => s.digest[3]

/-- The byte at an offset of the window, R64: offset o + t is bits 8t+7 : 8t of the register at o. -/
def State.windowByte (s : State) (offset : BitVec 6) : Byte :=
  wordByte (s.windowWord (offset.extractLsb' 2 4)) (offset.toNat % 4)

end Sys2Proof.Machine
end

