-- ==== Sys2Proof/Safety.lean ====
section
/-! DEFINITION. The terms statements are made in: the message a computation hashes, the machine's invariant, what the registers hold
during a computation, how many micro-ops remain, which registers a later step can still read, and frames. -/

namespace Sys2Proof.Machine

/-! ### The message and the turn -/

/-- The message of R60: InMem[SRC], …, InMem[SRC + LEN − 1]. -/
def State.message (s : State) : List Byte := (List.range s.len.toNat).map fun n => s.memRead (s.src.toNat + n)

/-- PAD admits the message, R103: its length fits the trailer and it does not pass the end of InMem. -/
abbrev State.admits (s : State) : Prop := s.len.toNat < 2 ^ 61 ∧ s.src.toNat + s.len.toNat ≤ 2 ^ s.addrW

/-- The next turn of the interleaving is the core's (log 1). -/
abbrev State.coreIsNext (s : State) : Prop := s.moves.head? = none ∨ s.moves.head? = some .core

/-- The next turn is the host's transaction. -/
abbrev State.hostIsNext (s : State) (req : BusReq) : Prop := s.moves.head? = some (.bus req)

/-- The next step runs the operation `i` (on the state with the turn taken). -/
abbrev State.runs (s : State) (i : Instr) : Prop := fetch s = .run i s.takeTurn

/-- The next step is an accepted START, R160. -/
abbrev State.startsNext (s : State) : Prop := s.busy = false ∧ ∃ data, s.runs (.wrCtrlStart data)

/-- The next step is a CLEAR or the reset line's, R159 and R200. -/
abbrev State.resetsNext (s : State) : Prop := (∃ data, s.runs (.wrCtrlClear data)) ∨ s.moves.head? = some .rst

/-- The registers R51 gives a value hold it. H, r and M are unspecified there. -/
structure State.HoldsResetValues (s : State) : Prop where
  phase : s.phase = .idle
  step : s.step = 0
  blk : s.blk = 0
  nblk : s.nblk = 0
  src : s.src = 0
  len : s.len = 0
  irqEn : s.irqEn = false
  errors : s.errTooLarge = false ∧ s.errRange = false ∧ s.errBusy = false
  digest : ∀ j : Fin 4, s.digest[j] = 0
  irq : s.irq = false

/-! ### The invariant of the machine -/

/-- No input error is recorded (R187: the input errors end BUSY). -/
abbrev State.noInputError (s : State) : Prop := s.errTooLarge = false ∧ s.errRange = false

/-- The iteration's position: the message was admitted, NBLK is its block count (R28) and no input error is recorded. -/
abbrev State.iterating (s : State) : Prop := s.admits ∧ s.nblk.toNat = blockCount s.len.toNat ∧ s.noInputError

/-- What each phase says of BLK, NBLK, H and the flags: R27, R28, R51, R103, R160, R187, R188. -/
def State.positionInv (s : State) : Prop :=
  match s.phase with
  | .idle => s.blk = 0 ∧ s.nblk = 0 ∧ s.noInputError ∧ s.errBusy = false
  | .padding => s.blk = 0 ∧ s.nblk = 0 ∧ s.h = iv ∧ s.noInputError
  | .iterLoad => s.iterating ∧ s.blk.toNat < s.nblk.toNat
  | .iterRound => s.iterating ∧ s.blk.toNat < s.nblk.toNat
  | .iterFeed => s.iterating ∧ s.blk.toNat < s.nblk.toNat
  | .finalizing => s.iterating ∧ s.blk = s.nblk
  | .done => s.blk = s.nblk ∧ 1 ≤ s.nblk.toNat ∧ s.nblk.toNat ≤ 2 ^ 55 + 1 ∧ s.noInputError
  | .error => s.blk = 0 ∧ s.nblk = 0 ∧ s.h = iv ∧ (s.errTooLarge = true ∨ s.errRange = true)

/-- The invariant every step keeps. -/
structure State.Inv (s : State) : Prop where
  /-- R7. -/
  addrW_legal : Config.legalAddrW s.addrW
  /-- InMem keeps its canonical form. -/
  inMem_wf : Memory.wf s.inMem = true
  /-- InMem has ADDR_W-bit addresses, R60. -/
  inMem_bounded : ∀ c ∈ s.inMem, c.1 < 2 ^ s.addrW
  /-- SRC's bits from ADDR_W up are 0, R29. -/
  src_bounded : s.src.toNat < 2 ^ s.addrW
  /-- STEP is 0 outside ITER_ROUND, R26. -/
  step_zero : s.phase ≠ .iterRound → s.step = 0
  position : s.positionInv

/-! ### What a computation's registers hold -/

/-- The padded message of the computation, R92. -/
def State.padded (s : State) : List Byte := paddedMessage s.message

/-- During a computation H holds the chaining value before block BLK (R132, R133), M the words of the block (R110) and r the working
words after the first STEP steps (R126). -/
def State.computes (s : State) : Prop :=
  match s.phase with
  | .iterLoad => s.h = chainValue s.padded s.blk.toNat
  | .iterRound =>
    s.h = chainValue s.padded s.blk.toNat ∧ s.m = messageBlock s.padded s.blk.toNat ∧ s.r = roundsTo s.m s.h s.step.toNat
  | .iterFeed =>
    s.h = chainValue s.padded s.blk.toNat ∧ s.m = messageBlock s.padded s.blk.toNat ∧ s.r = roundsTo s.m s.h 64
  | .finalizing => s.h = transform s.message
  | .idle | .padding | .done | .error => True

/-- How many micro-ops the computation still takes, R206: one for a PAD that rejects; otherwise PAD, 66 a block, and FINAL. -/
def State.remaining (s : State) : Nat :=
  let left := s.nblk.toNat - s.blk.toNat
  match s.phase with
  | .padding => if s.lenTooLarge || s.pastInMem then 1 else 2 + 66 * blockCount s.len.toNat
  | .iterLoad => 66 * left + 1
  | .iterRound => (64 - s.step.toNat) + 1 + 66 * (left - 1) + 1
  | .iterFeed => 1 + 66 * (left - 1) + 1
  | .finalizing => 1
  | .idle | .done | .error => 0

/-! ### What a later step can still read -/

/-- The state with every register blanked that is written again before any step reads it (R51), and the counter of free words with
them. -/
def State.live (s : State) : State :=
  let noR := { s with r := #v[0, 0, 0, 0], freeIdx := 0 }
  let noM := { s with m := State.reset.m, freeIdx := 0 }
  let noRM := { noR with m := State.reset.m }
  match s.phase with
  | .idle | .done | .error => { noRM with h := #v[0, 0, 0, 0] }
  | .padding | .iterLoad | .finalizing => noRM
  | .iterRound => { s with freeIdx := 0 }
  | .iterFeed => noM

/-! ### Frames -/

/-- PHASE, STEP, BLK and NBLK are as before. -/
abbrev SameSequencer (s t : State) : Prop := t.phase = s.phase ∧ t.step = s.step ∧ t.blk = s.blk ∧ t.nblk = s.nblk

/-- SRC and LEN are as before. -/
abbrev SameOperands (s t : State) : Prop := t.src = s.src ∧ t.len = s.len

/-- The three error flags are as before. -/
abbrev SameErrors (s t : State) : Prop :=
  t.errTooLarge = s.errTooLarge ∧ t.errRange = s.errRange ∧ t.errBusy = s.errBusy

/-- H, r and M are as before. -/
abbrev SameDatapath (s t : State) : Prop := t.h = s.h ∧ t.r = s.r ∧ t.m = s.m

/-- Every byte of InMem reads as before. -/
abbrev SameInMem (s t : State) : Prop := ∀ a, t.memRead a = s.memRead a

/-- ADDR_W and the model's own fields but bus_rdata are as before. -/
abbrev SameSetting (s t : State) : Prop := t.addrW = s.addrW ∧ t.moves = s.moves ∧ t.freeIdx = s.freeIdx

/-! ### Groups of operations -/

/-- The host's reads, R150 to R158. -/
def isRead : Instr → Bool
  | .rdCtrl | .rdStatus | .rdSrc _ | .rdLen _ | .rdNblk _ | .rdBlk _ | .rdStep | .rdRsvd | .rdDigest _ => true
  | .wrCtrlClear _ | .wrCtrlStart _ | .wrCtrlCfg _ | .wrStatus _ | .wrSrc _ _ | .wrLen _ _ | .wrNblk _ _ | .wrBlk _ _
  | .wrStep _ | .wrRsvd _ | .wrDigest _ _ => false
  | .pad | .load | .stepF _ | .stepG _ | .stepH _ | .stepI _ | .feed | .final => false

/-- The core's micro-ops, R86. -/
def isMicroOp : Instr → Bool
  | .pad | .load | .stepF _ | .stepG _ | .stepH _ | .stepI _ | .feed | .final => true
  | .rdCtrl | .rdStatus | .rdSrc _ | .rdLen _ | .rdNblk _ | .rdBlk _ | .rdStep | .rdRsvd | .rdDigest _ => false
  | .wrCtrlClear _ | .wrCtrlStart _ | .wrCtrlCfg _ | .wrStatus _ | .wrSrc _ _ | .wrLen _ _ | .wrNblk _ _ | .wrBlk _ _
  | .wrStep _ | .wrRsvd _ | .wrDigest _ _ => false

end Sys2Proof.Machine
end

