-- ==== Sys2Proof/Certificates/Slice0/Obligations.lean ====
section
/-! DEFINITION. The statements for the provers. Each formalises rules of spec/, named in its docstring; a clause that rests on the
model's own choice names its log entry. -/

open Sys2Proof Sys2Proof.Machine

/-! ### Encoding -/

/-- Words written out from R81, R82, R86 and the vectors of 95_test_vectors.md L2.10 and L3 decode to their operations. -/
def Obligations.KnownWordsDecode : Prop :=
  decodeDesc 0x8000000005 = some (.wrCtrlStart 0x00000005) ∧ decodeDesc 0x8000000003 = some (.wrCtrlClear 0x00000003) ∧
  decodeDesc 0x8000000004 = some (.wrCtrlCfg 0x00000004) ∧ decodeDesc 0x8C00000001 = some (.wrSrc true 0x00000001) ∧
  decodeDesc 0x9000000063 = some (.wrLen false 0x00000063) ∧ decodeDesc 0x0400000000 = some .rdStatus ∧
  decodeDesc 0x3C00000000 = some (.rdDigest 3) ∧ decodeDesc 0xB000000001 = some (.wrDigest 0 0x00000001) ∧
  decodeDesc 0x4400000000 = none ∧ decodeDesc 0x0500000000 = none ∧
  decodeMicro 0x040 = some .pad ∧ decodeMicro 0x080 = some .load ∧ decodeMicro 0x0CF = some (.stepF 15) ∧
  decodeMicro 0x0D1 = some (.stepG 1) ∧ decodeMicro 0x0E0 = some (.stepH 0) ∧ decodeMicro 0x0FF = some (.stepI 15) ∧
  decodeMicro 0x100 = some .feed ∧ decodeMicro 0x140 = some .final ∧ decodeMicro 0x000 = none

/-- The decoder reads back every well-formed operation from its own word (R81 to R86). -/
def Obligations.DecodeOfEncodeIsTheOperation : Prop :=
  ∀ i : Instr, i.wellFormed = true → decode (encode i) = some i

/-- R82: the table's masks and matches, and that a legal descriptor matches exactly one row, whose operation it spells. -/
def Obligations.LegalDescriptorMatchesExactlyOneRow : Prop :=
  (descTable.map fun row => (row.mask, row.pattern)) = [
    (0xFF00000000, 0x0000000000), (0xFF00000000, 0x0400000000), (0xFB00000000, 0x0800000000), (0xFB00000000, 0x1000000000),
    (0xFB00000000, 0x1800000000), (0xFB00000000, 0x2000000000), (0xFF00000000, 0x2800000000), (0xFF00000000, 0x2C00000000),
    (0xF300000000, 0x3000000000), (0xFF00000002, 0x8000000002), (0xFF00000003, 0x8000000001), (0xFF00000003, 0x8000000000),
    (0xFF00000000, 0x8400000000), (0xFB00000000, 0x8800000000), (0xFB00000000, 0x9000000000), (0xFB00000000, 0x9800000000),
    (0xFB00000000, 0xA000000000), (0xFF00000000, 0xA800000000), (0xFF00000000, 0xAC00000000), (0xF300000000, 0xB000000000)] ∧
  ∀ d : Desc, d.getLsbD 38 = false → d.extractLsb' 32 2 = 0 →
    ∃ row, (descTable.filter fun row => row.applies d) = [row] ∧ decodeDesc d = some (row.build d) ∧
      (row.build d).wellFormed = true

/-- R86: each row of the micro-op table, and that a micro-op word matches at most one. -/
def Obligations.MicroOpWordsDecodeByTheirRows : Prop :=
  (∀ w : MicroWord, w &&& 0x1C0 = 0x040 → decodeMicro w = some .pad) ∧
  (∀ w : MicroWord, w &&& 0x1C0 = 0x080 → decodeMicro w = some .load) ∧
  (∀ w : MicroWord, w &&& 0x1F0 = 0x0C0 → decodeMicro w = some (.stepF (w.extractLsb' 0 4))) ∧
  (∀ w : MicroWord, w &&& 0x1F0 = 0x0D0 → decodeMicro w = some (.stepG (w.extractLsb' 0 4))) ∧
  (∀ w : MicroWord, w &&& 0x1F0 = 0x0E0 → decodeMicro w = some (.stepH (w.extractLsb' 0 4))) ∧
  (∀ w : MicroWord, w &&& 0x1F0 = 0x0F0 → decodeMicro w = some (.stepI (w.extractLsb' 0 4))) ∧
  (∀ w : MicroWord, w &&& 0x1C0 = 0x100 → decodeMicro w = some .feed) ∧
  (∀ w : MicroWord, w &&& 0x1C0 = 0x140 → decodeMicro w = some .final) ∧
  ∀ w : MicroWord, (microTable.filter fun row => row.applies w).length ≤ 1

/-- R83, R66: the decode of descriptors is total and answers `illegal` exactly for Z = 1 or ADDR[1:0] ≠ 0; the model refuses an illegal
transaction, an access of another width among them, and an admitted one runs to a next state, from every state. -/
def Obligations.BusAdmitsExactlyAlignedWordAccesses : Prop :=
  (∀ d : Desc, decodeDesc d = none ↔ d.getLsbD 38 = true ∨ d.extractLsb' 32 2 ≠ 0) ∧
  ∀ (s : State) (req : BusReq), s.hostIsNext req →
    (req.width ≠ 32 ∨ req.desc.getLsbD 38 = true ∨ req.desc.extractLsb' 32 2 ≠ 0 → step s = .refused .busError) ∧
    (req.width = 32 → req.desc.getLsbD 38 = false → req.desc.extractLsb' 32 2 = 0 → ∃ t, step s = .next t)

/-! ### The turns of the interleaving -/

/-- A step runs the decoded operation. A turn of the core runs the micro-op its word {PHASE, STEP} selects (R67, R85, R86), and a turn of
the bus the operation its descriptor spells (R67, R81, R82); the turn is taken off the list and no answer stands on bus_rdata (log 1,
log 2). -/
def Obligations.StepRunsTheDecodedOperation : Prop :=
  ∀ (s : State) (i : Instr),
    (s.coreIsNext → decode (.micro (s.phase.code ++ s.step)) = some i →
      step s = exec i { s with moves := s.moves.tail, busRdata := none }) ∧
    (∀ d, s.hostIsNext ⟨32, d⟩ → decode (.desc d) = some i →
      step s = exec i { s with moves := s.moves.tail, busRdata := none })

/-- R87: IDLE, DONE and ERROR are exactly the phases without a micro-op. That a turn of the core there is a step which changes nothing but
the turn and the answer on bus_rdata is the model's (log 11, with log 1 and log 2). -/
def Obligations.QuiescentCoreWaits : Prop :=
  (∀ w : MicroWord, decodeMicro w = none ↔ w.extractLsb' 6 3 = 0 ∨ w.extractLsb' 6 3 = 6 ∨ w.extractLsb' 6 3 = 7) ∧
  ∀ s : State, s.coreIsNext → s.phase = .idle ∨ s.phase = .done ∨ s.phase = .error →
    step s = .next { s with moves := s.moves.tail, busRdata := none }

/-- A byte of InMem written by the host outside the block: where the address exists and R72's duty is kept, that byte and no other
changes, and no register does (the turn itself is the model's, log 9). -/
def Obligations.HostFillsInMem : Prop :=
  ∀ (s : State) (a : Nat) (b : Byte), s.Inv → s.moves.head? = some (.memWrite a b) → a < 2 ^ s.addrW →
    (s.busy = true → s.isMessageByte a = true → s.memRead a = b) →
    ∃ t, step s = .next t ∧ t.memRead a = b ∧ (∀ x, x ≠ a → t.memRead x = s.memRead x) ∧
      t = { s with inMem := t.inMem, moves := s.moves.tail, busRdata := none }

/-! ### Reset -/

/-- R200: the reset line gives every register of R51 its value in one step and in every phase, WR_CTRL_CLEAR has exactly the same
effect, and the core then performs no micro-op. That InMem is as before and that the line has a turn of its own is the model's (log 20,
with log 1), as are ADDR_W in the state (log 6) and that CLEAR gives the very same H, r and M (log 5). -/
def Obligations.ResetTurnAndClearGiveResetValues : Prop :=
  ∀ s : State, s.moves.head? = some .rst →
    ∃ t, step s = .next t ∧ t.HoldsResetValues ∧ t.statusWord = 0 ∧ decodeMicro t.microWord = none ∧ SameInMem s t ∧
      t.addrW = s.addrW ∧
      ∀ data, exec (.wrCtrlClear data) { s with moves := s.moves.tail, busRdata := none } = .next t

/-- R51: the state after reset holds every value the rule gives. H, r and M are not named: their values there are the model's (log 4). -/
def Obligations.ResetStateHoldsResetValues : Prop :=
  State.reset.HoldsResetValues ∧ State.reset.addrW = 64 ∧ State.reset.statusWord = 0

/-! ### Host reads -/

/-- R150. -/
def Obligations.RdCtrlReturnsIrqEn : Prop :=
  (∀ d : Desc, d &&& 0xFF00000000 = 0x0000000000 → decodeDesc d = some .rdCtrl) ∧
  ∀ s : State, ∃ w : Word, exec .rdCtrl s = .next { s with busRdata := some w } ∧ w.getLsbD 2 = s.irqEn ∧
    ∀ k, k ≠ 2 → w.getLsbD k = false

/-- R151: each field of STATUS in its place, and nothing above bit 8. -/
def Obligations.RdStatusReturnsTheStatusFields : Prop :=
  (∀ d : Desc, d &&& 0xFF00000000 = 0x0400000000 → decodeDesc d = some .rdStatus) ∧
  ∀ s : State, ∃ w : Word, exec .rdStatus s = .next { s with busRdata := some w } ∧ w.extractLsb' 0 3 = s.phase.code ∧
    w.getLsbD 3 = (decide (1 ≤ s.phase.code.toNat) && decide (s.phase.code.toNat ≤ 5)) ∧
    w.getLsbD 4 = decide (s.phase.code = 6) ∧ w.getLsbD 5 = s.errTooLarge ∧ w.getLsbD 6 = s.errRange ∧
    w.getLsbD 7 = s.errBusy ∧ w.getLsbD 8 = (s.irqEn && (decide (s.phase.code = 6) || decide (s.phase.code = 7))) ∧
    (∀ k, 9 ≤ k → w.getLsbD k = false) ∧ (w.getLsbD 3 && w.getLsbD 4) = false

/-- R152: the half of SRC that HI names; bits at positions from ADDR_W up read 0. -/
def Obligations.RdSrcReturnsTheHalfOfSrc : Prop :=
  (∀ d : Desc, d &&& 0xFB00000000 = 0x0800000000 → decodeDesc d = some (.rdSrc (d.getLsbD 34))) ∧
  ∀ (s : State) (hi : Bool), ∃ w : Word, exec (.rdSrc hi) s = .next { s with busRdata := some w } ∧
    w.toNat = (if hi then s.src.toNat / 2 ^ 32 else s.src.toNat % 2 ^ 32) ∧
    (s.Inv → ∀ k, k < 32 → s.addrW ≤ (if hi then 32 + k else k) → w.getLsbD k = false)

/-- R153, R154, R155: the halves of LEN, NBLK and BLK. A rejected LEN reads unchanged; NBLK reads 0 between START and PAD and after a
rejected PAD; BLK equals NBLK in DONE and is 0 in ERROR. -/
def Obligations.ReadsOfLenNblkAndBlkReturnTheirHalves : Prop :=
  (∀ d : Desc, d &&& 0xFB00000000 = 0x1000000000 → decodeDesc d = some (.rdLen (d.getLsbD 34))) ∧
  (∀ d : Desc, d &&& 0xFB00000000 = 0x1800000000 → decodeDesc d = some (.rdNblk (d.getLsbD 34))) ∧
  (∀ d : Desc, d &&& 0xFB00000000 = 0x2000000000 → decodeDesc d = some (.rdBlk (d.getLsbD 34))) ∧
  (∀ (s : State) (hi : Bool), ∃ l n b : Word,
    exec (.rdLen hi) s = .next { s with busRdata := some l } ∧
    exec (.rdNblk hi) s = .next { s with busRdata := some n } ∧
    exec (.rdBlk hi) s = .next { s with busRdata := some b } ∧
    l.toNat = (if hi then s.len.toNat / 2 ^ 32 else s.len.toNat % 2 ^ 32) ∧
    n.toNat = (if hi then s.nblk.toNat / 2 ^ 32 else s.nblk.toNat % 2 ^ 32) ∧
    b.toNat = (if hi then s.blk.toNat / 2 ^ 32 else s.blk.toNat % 2 ^ 32) ∧
    (s.Inv → s.phase = .padding ∨ s.phase = .error → n = 0) ∧
    (s.Inv → s.phase = .done → b = n) ∧ (s.Inv → s.phase = .error → b = 0)) ∧
  ∀ s : State, ∃ t, exec .pad s = .next t ∧ t.len = s.len

/-- R156 and R157: STEP in bits 5:0, which reads 0 outside ITER_ROUND; and the reserved offset, which reads 0. -/
def Obligations.RdStepReturnsStepAndRdRsvdZero : Prop :=
  (∀ d : Desc, d &&& 0xFF00000000 = 0x2800000000 → decodeDesc d = some .rdStep) ∧
  (∀ s : State, ∃ w : Word, exec .rdStep s = .next { s with busRdata := some w } ∧ w.toNat = s.step.toNat ∧
    (s.Inv → s.phase ≠ .iterRound → w = 0)) ∧
  (∀ d : Desc, d &&& 0xFF00000000 = 0x2C00000000 → decodeDesc d = some .rdRsvd) ∧
  ∀ s : State, exec .rdRsvd s = .next { s with busRdata := some 0x00000000 }

/-- R158: the DIGEST word that N names. -/
def Obligations.RdDigestReturnsTheNamedWord : Prop :=
  (∀ d : Desc, d &&& 0xF300000000 = 0x3000000000 → decodeDesc d = some (.rdDigest (d.extractLsb' 34 2))) ∧
  ∀ (s : State) (n : BitVec 2), exec (.rdDigest n) s = .next { s with busRdata := some s.digest[n.toNat] }

/-- The frame of every read (R68): it completes, it answers a word, and every register and every byte of InMem is as before; the same
read once more answers the same word. -/
def Obligations.ReadsChangeNothingAndRepeat : Prop :=
  ∀ (i : Instr) (s : State), isRead i = true →
    ∃ t w, exec i s = .next t ∧ t.busRdata = some w ∧ SameSequencer s t ∧ SameOperands s t ∧ t.irqEn = s.irqEn ∧
      SameErrors s t ∧ t.digest = s.digest ∧ SameDatapath s t ∧ SameInMem s t ∧ SameSetting s t ∧ exec i t = .next t

/-- The register map of R36: a read at each offset of the window answers that offset's register. -/
def Obligations.ReadsFollowTheRegisterMap : Prop :=
  ∀ (s : State) (idx : BitVec 4), ∃ i, decode (.desc (readDesc (idx ++ 0#2))) = some i ∧ isRead i = true ∧
    exec i s = .next { s with busRdata := some (s.windowWord idx) }

/-! ### Host writes -/

/-- R159: CLEAR gives every register its reset value in every phase, whatever DATA's other bits hold; `irq` drops and no further
micro-op is performed. H, r and M become unspecified, so nothing is said of them (log 5). That InMem stays is the model's
(log 20), as are ADDR_W, the turns and the answer on bus_rdata in the state (log 6, log 1, log 2). -/
def Obligations.WrCtrlClearResetsTheCore : Prop :=
  (∀ d : Desc, d &&& 0xFF00000002 = 0x8000000002 → decodeDesc d = some (.wrCtrlClear (d.extractLsb' 0 32))) ∧
  ∀ (s : State) (data : Word), ∃ t, exec (.wrCtrlClear data) s = .next t ∧ t.HoldsResetValues ∧
    decodeMicro t.microWord = none ∧ SameInMem s t ∧ t.addrW = s.addrW ∧ t.moves = s.moves ∧ t.busRdata = s.busRdata

/-- R160: START writes IRQ_EN from DATA[2]; while BUSY it is ignored with ERR_BUSY, and otherwise it begins a computation: the error
flags are cleared, H takes the initial constants of R22, BLK, STEP and NBLK are 0 and the phase is PADDING. Nothing else changes. -/
def Obligations.WrCtrlStartBeginsAComputationUnlessBusy : Prop :=
  (∀ d : Desc, d &&& 0xFF00000003 = 0x8000000001 → decodeDesc d = some (.wrCtrlStart (d.extractLsb' 0 32))) ∧
  ∀ (s : State) (data : Word),
    (1 ≤ s.phase.code.toNat ∧ s.phase.code.toNat ≤ 5 →
      exec (.wrCtrlStart data) s = .next { s with irqEn := data.getLsbD 2, errBusy := true }) ∧
    (s.phase = .idle ∨ s.phase = .done ∨ s.phase = .error →
      exec (.wrCtrlStart data) s = .next { s with
        irqEn := data.getLsbD 2, errTooLarge := false, errRange := false, errBusy := false,
        h := #v[0x67452301, 0xEFCDAB89, 0x98BADCFE, 0x10325476], blk := 0, step := 0, nblk := 0, phase := .padding })

/-- R161: CFG writes IRQ_EN in every phase and nothing else; in DONE and ERROR `irq` follows at once. -/
def Obligations.WrCtrlCfgWritesIrqEn : Prop :=
  (∀ d : Desc, d &&& 0xFF00000003 = 0x8000000000 → decodeDesc d = some (.wrCtrlCfg (d.extractLsb' 0 32))) ∧
  ∀ (s : State) (data : Word), ∃ t, exec (.wrCtrlCfg data) s = .next t ∧ t = { s with irqEn := data.getLsbD 2 } ∧
    (s.phase = .done ∨ s.phase = .error → t.irq = data.getLsbD 2)

/-- R163: SRC's named half takes DATA unless BUSY, the bits from ADDR_W up stored as 0; while BUSY the flag alone is set. -/
def Obligations.WrSrcWritesTheHalfUnlessBusy : Prop :=
  (∀ d : Desc, d &&& 0xFB00000000 = 0x8800000000 → decodeDesc d = some (.wrSrc (d.getLsbD 34) (d.extractLsb' 0 32))) ∧
  ∀ (s : State) (hi : Bool) (data : Word),
    (s.busy = true → exec (.wrSrc hi data) s = .next { s with errBusy := true }) ∧
    (s.busy = false → ∃ t, exec (.wrSrc hi data) s = .next t ∧ t = { s with src := t.src } ∧
      t.src.toNat = (if hi then data.toNat * 2 ^ 32 + s.src.toNat % 2 ^ 32
        else s.src.toNat / 2 ^ 32 * 2 ^ 32 + data.toNat) % 2 ^ s.addrW)

/-- R164: LEN's named half takes DATA unless BUSY; a LEN of 2^61 or more is stored like any other. -/
def Obligations.WrLenWritesTheHalfUnlessBusy : Prop :=
  (∀ d : Desc, d &&& 0xFB00000000 = 0x9000000000 → decodeDesc d = some (.wrLen (d.getLsbD 34) (d.extractLsb' 0 32))) ∧
  ∀ (s : State) (hi : Bool) (data : Word),
    (s.busy = true → exec (.wrLen hi data) s = .next { s with errBusy := true }) ∧
    (s.busy = false → ∃ t, exec (.wrLen hi data) s = .next t ∧ t = { s with len := t.len } ∧
      t.len.toNat = (if hi then data.toNat * 2 ^ 32 + s.len.toNat % 2 ^ 32
        else s.len.toNat / 2 ^ 32 * 2 ^ 32 + data.toNat))

/-- R162, R165 to R169: writes to read-only registers and to the reserved offset change nothing, in every phase and whatever DATA. -/
def Obligations.WritesToReadOnlyRegistersAreIgnored : Prop :=
  (∀ d : Desc, d &&& 0xFF00000000 = 0x8400000000 → decodeDesc d = some (.wrStatus (d.extractLsb' 0 32))) ∧
  (∀ d : Desc, d &&& 0xFB00000000 = 0x9800000000 → decodeDesc d = some (.wrNblk (d.getLsbD 34) (d.extractLsb' 0 32))) ∧
  (∀ d : Desc, d &&& 0xFB00000000 = 0xA000000000 → decodeDesc d = some (.wrBlk (d.getLsbD 34) (d.extractLsb' 0 32))) ∧
  (∀ d : Desc, d &&& 0xFF00000000 = 0xA800000000 → decodeDesc d = some (.wrStep (d.extractLsb' 0 32))) ∧
  (∀ d : Desc, d &&& 0xFF00000000 = 0xAC00000000 → decodeDesc d = some (.wrRsvd (d.extractLsb' 0 32))) ∧
  (∀ d : Desc, d &&& 0xF300000000 = 0xB000000000 →
    decodeDesc d = some (.wrDigest (d.extractLsb' 34 2) (d.extractLsb' 0 32))) ∧
  ∀ (s : State) (hi : Bool) (n : BitVec 2) (data : Word),
    exec (.wrStatus data) s = .next s ∧ exec (.wrNblk hi data) s = .next s ∧ exec (.wrBlk hi data) s = .next s ∧
    exec (.wrStep data) s = .next s ∧ exec (.wrRsvd data) s = .next s ∧ exec (.wrDigest n data) s = .next s

/-- The frame of the writes that store: SRC and LEN writes touch their own register and ERR_BUSY; START and CFG touch what R160 and
R161 name. No write touches InMem, DIGEST, r or M but CLEAR. -/
def Obligations.HostWritesFrame : Prop :=
  ∀ (s : State) (hi : Bool) (data : Word),
    (∃ t, exec (.wrSrc hi data) s = .next t ∧ t.len = s.len ∧ t.irqEn = s.irqEn ∧ SameSequencer s t ∧
      t.errTooLarge = s.errTooLarge ∧ t.errRange = s.errRange ∧ t.digest = s.digest ∧ SameDatapath s t ∧ SameInMem s t ∧
      SameSetting s t ∧ t.busRdata = s.busRdata) ∧
    (∃ t, exec (.wrLen hi data) s = .next t ∧ t.src = s.src ∧ t.irqEn = s.irqEn ∧ SameSequencer s t ∧
      t.errTooLarge = s.errTooLarge ∧ t.errRange = s.errRange ∧ t.digest = s.digest ∧ SameDatapath s t ∧ SameInMem s t ∧
      SameSetting s t ∧ t.busRdata = s.busRdata) ∧
    (∃ t, exec (.wrCtrlStart data) s = .next t ∧ SameOperands s t ∧ t.digest = s.digest ∧ t.r = s.r ∧ t.m = s.m ∧
      SameInMem s t ∧ SameSetting s t ∧ t.busRdata = s.busRdata ∧
      (s.busy = true → SameSequencer s t ∧ t.h = s.h ∧ t.errTooLarge = s.errTooLarge ∧ t.errRange = s.errRange)) ∧
    (∃ t, exec (.wrCtrlCfg data) s = .next t ∧ SameOperands s t ∧ SameSequencer s t ∧ SameErrors s t ∧
      t.digest = s.digest ∧ SameDatapath s t ∧ SameInMem s t ∧ SameSetting s t ∧ t.busRdata = s.busRdata)

/-! ### Padder -/

/-- R103: PAD evaluates both checks; either puts the core in ERROR with the flags set, and otherwise NBLK is (LEN + 8) div 64 + 1 and
the iteration begins. Nothing else changes. -/
def Obligations.PadChecksTheInputAndCountsBlocks : Prop :=
  (∀ w : MicroWord, w.extractLsb' 6 3 = 1 → decodeMicro w = some .pad) ∧
  ∀ s : State,
    (2 ^ 61 ≤ s.len.toNat ∨ 2 ^ s.addrW < s.src.toNat + s.len.toNat →
      exec .pad s = .next { s with
        errTooLarge := s.errTooLarge || decide (2 ^ 61 ≤ s.len.toNat),
        errRange := s.errRange || decide (2 ^ s.addrW < s.src.toNat + s.len.toNat),
        phase := .error }) ∧
    (s.len.toNat < 2 ^ 61 → s.src.toNat + s.len.toNat ≤ 2 ^ s.addrW →
      ∃ n : DWord, n.toNat = (s.len.toNat + 8) / 64 + 1 ∧ exec .pad s = .next { s with nblk := n, phase := .iterLoad })

/-- R100: N(L) is the smallest multiple of 64 that is at least L + 9, and NBLK(L) = N(L) / 64. R102: the padding invariants. -/
def Obligations.PaddedLengthIsTheSmallestMultiple : Prop :=
  ∀ l : Nat,
    (paddedLength l = 64 * ((l + 8) / 64 + 1) ∧ blockCount l = paddedLength l / 64 ∧ 64 ∣ paddedLength l ∧
      l + 9 ≤ paddedLength l ∧ ∀ n, 64 ∣ n → l + 9 ≤ n → paddedLength l ≤ n) ∧
    paddedLength l % 64 = 0 ∧ 9 ≤ paddedLength l - l ∧ paddedLength l - l ≤ 72 ∧
    (paddedLength l - l = 9 ↔ l % 64 = 55) ∧ (paddedLength l - l = 72 ↔ l % 64 = 56) ∧ l ≤ paddedLength l - 9 ∧
    paddedLength l - l - 9 ≤ 63

/-- R92 and R101: the padded byte function the core computes with is the padded message of the bytes SRC and LEN name: the message,
0x80, zeros and the trailer, N(L) bytes in all. -/
def Obligations.PaddedBytesAreThePaddedMessage : Prop :=
  ∀ s : State, s.padded.length = paddedLength s.len.toNat ∧
    ∀ n, n < paddedLength s.len.toNat → s.padded[n]? = some (s.paddedByte n)

/-! ### Block Iterator -/

/-- R111 with R110 and R101: LOAD, under its own conditions (the block is one of the padded message's, PAD has checked the addresses),
fills M with the block's sixteen little-endian words of padded bytes, copies H to r, sets STEP to 0 and enters ITER_ROUND. Nothing
else changes. -/
def Obligations.LoadLatchesTheBlock : Prop :=
  (∀ w : MicroWord, w.extractLsb' 6 3 = 2 → decodeMicro w = some .load) ∧
  ∀ (s : State) (P : Nat → Byte),
    s.blk.toNat < (s.len.toNat + 8) / 64 + 1 → s.src.toNat + s.len.toNat ≤ 2 ^ s.addrW →
    (∀ n, n < s.len.toNat → P n = s.memRead (s.src.toNat + n)) → P s.len.toNat = 0x80 →
    (∀ n, s.len.toNat < n → n < 64 * ((s.len.toNat + 8) / 64 + 1) - 8 → P n = 0x00) →
    (∀ k, k < 8 →
      (P (64 * ((s.len.toNat + 8) / 64 + 1) - 8 + k)).toNat = 8 * s.len.toNat / 2 ^ (8 * k) % 2 ^ 8) →
    ∃ t, exec .load s = .next t ∧ t = { s with m := t.m, r := s.h, step := 0, phase := .iterRound } ∧
      ∀ j : Fin 16, t.m[j] =
        (P (64 * s.blk.toNat + 4 * j)).setWidth 32 ||| (P (64 * s.blk.toNat + 4 * j + 1)).setWidth 32 <<< 8 |||
        (P (64 * s.blk.toNat + 4 * j + 2)).setWidth 32 <<< 16 ||| (P (64 * s.blk.toNat + 4 * j + 3)).setWidth 32 <<< 24

/-- The model's own stops of LOAD (log 10): a block the padded message does not have, and a message byte of the block outside InMem. -/
def Obligations.LoadFaultsOutsideItsConditions : Prop :=
  ∀ s : State,
    (blockCount s.len.toNat ≤ s.blk.toNat → exec .load s = .fault .blockIndex) ∧
    (∀ n, s.blk.toNat < blockCount s.len.toNat → 64 * s.blk.toNat ≤ n → n < 64 * s.blk.toNat + 64 → n < s.len.toNat →
      2 ^ s.addrW ≤ s.src.toNat + n → exec .load s = .fault .inMemAddress)

/-! ### Compression Round -/

/-- R121: a rotation by 1 to 31 is the two logical shifts' or, and moves bit k to bit (k + s) mod 32. -/
def Obligations.RotationMovesBitsInACircle : Prop :=
  ∀ (x : Word) (n : Nat), 1 ≤ n → n ≤ 31 → rotl32 x n = (x <<< n) ||| (x >>> (32 - n)) ∧
    ∀ k, k < 32 → (rotl32 x n).getLsbD ((k + n) % 32) = x.getLsbD k

/-- R122 to R125: F selects y where x is 1 and z where x is 0; G selects x where z is 1 and y where z is 0; H and I bit by bit. -/
def Obligations.MixingFunctionsBitByBit : Prop :=
  ∀ (x y z : Word) (k : Nat), k < 32 →
    (mixF x y z).getLsbD k = (if x.getLsbD k then y.getLsbD k else z.getLsbD k) ∧
    (mixG x y z).getLsbD k = (if z.getLsbD k then x.getLsbD k else y.getLsbD k) ∧
    (mixH x y z).getLsbD k = (x.getLsbD k ^^ (y.getLsbD k ^^ z.getLsbD k)) ∧
    (mixI x y z).getLsbD k = (y.getLsbD k ^^ (x.getLsbD k || !z.getLsbD k))

/-- R88 and R89: the closed forms of k(i), the table S of rotation amounts, the mixing function of each round and the sixty-four
constants T(i); every amount is 4 to 23, and each round names every message word exactly once. The spec supplies the values of k, s and T
from general knowledge (log 18). -/
def Obligations.StepTableFollowsItsClosedForms : Prop :=
  (∀ j : BitVec 4,
    (romK (0#2 ++ j)).toNat = j.toNat ∧ (romK (1#2 ++ j)).toNat = (1 + 5 * (16 + j.toNat)) % 16 ∧
    (romK (2#2 ++ j)).toNat = (5 + 3 * (32 + j.toNat)) % 16 ∧ (romK (3#2 ++ j)).toNat = 7 * (48 + j.toNat) % 16) ∧
  (∀ j : BitVec 4,
    [romS (0#2 ++ j), romS (1#2 ++ j), romS (2#2 ++ j), romS (3#2 ++ j)] =
      match j.toNat % 4 with
      | 0 => [7, 5, 4, 6]
      | 1 => [12, 9, 11, 10]
      | 2 => [17, 14, 16, 15]
      | _ => [22, 20, 23, 21]) ∧
  (∀ i : BitVec 6, 4 ≤ romS i ∧ romS i ≤ 23) ∧
  (mixOfRound 0 = mixF ∧ mixOfRound 1 = mixG ∧ mixOfRound 2 = mixH ∧ mixOfRound 3 = mixI) ∧
  (List.ofFn fun j : Fin 16 => romT (BitVec.ofNat 6 (0 + j.val))) = [
    0xD76AA478, 0xE8C7B756, 0x242070DB, 0xC1BDCEEE, 0xF57C0FAF, 0x4787C62A, 0xA8304613, 0xFD469501,
    0x698098D8, 0x8B44F7AF, 0xFFFF5BB1, 0x895CD7BE, 0x6B901122, 0xFD987193, 0xA679438E, 0x49B40821] ∧
  (List.ofFn fun j : Fin 16 => romT (BitVec.ofNat 6 (16 + j.val))) = [
    0xF61E2562, 0xC040B340, 0x265E5A51, 0xE9B6C7AA, 0xD62F105D, 0x02441453, 0xD8A1E681, 0xE7D3FBC8,
    0x21E1CDE6, 0xC33707D6, 0xF4D50D87, 0x455A14ED, 0xA9E3E905, 0xFCEFA3F8, 0x676F02D9, 0x8D2A4C8A] ∧
  (List.ofFn fun j : Fin 16 => romT (BitVec.ofNat 6 (32 + j.val))) = [
    0xFFFA3942, 0x8771F681, 0x6D9D6122, 0xFDE5380C, 0xA4BEEA44, 0x4BDECFA9, 0xF6BB4B60, 0xBEBFBC70,
    0x289B7EC6, 0xEAA127FA, 0xD4EF3085, 0x04881D05, 0xD9D4D039, 0xE6DB99E5, 0x1FA27CF8, 0xC4AC5665] ∧
  (List.ofFn fun j : Fin 16 => romT (BitVec.ofNat 6 (48 + j.val))) = [
    0xF4292244, 0x432AFF97, 0xAB9423A7, 0xFC93A039, 0x655B59C3, 0x8F0CCC92, 0xFFEFF47D, 0x85845DD1,
    0x6FA87E4F, 0xFE2CE6E0, 0xA3014314, 0x4E0811A1, 0xF7537E82, 0xBD3AF235, 0x2AD7D2BB, 0xEB86D391] ∧
  ∀ (round : BitVec 2) (k : BitVec 4), ∃ j : BitVec 4, romK (round ++ j) = k ∧ ∀ j' : BitVec 4, romK (round ++ j') = k → j' = j

/-- R127: a step of round 1. -/
def Obligations.StepFUpdatesTheWorkingWords : Prop :=
  (∀ w : MicroWord, w.extractLsb' 4 5 = 0b01100 → decodeMicro w = some (.stepF (w.extractLsb' 0 4))) ∧
  ∀ (s : State) (j : BitVec 4), ∃ x : Word, ∃ n : Nat,
    x = s.r[0] + ((s.r[1] &&& s.r[2]) ||| (~~~s.r[1] &&& s.r[3])) + s.m[j.toNat] + romT (0#2 ++ j) ∧
    n = [7, 12, 17, 22].getD (j.toNat % 4) 0 ∧
    exec (.stepF j) s = .next { s with
      r := #v[s.r[3], s.r[1] + ((x <<< n) ||| (x >>> (32 - n))), s.r[1], s.r[2]], step := (0#2 ++ j) + 1 }

/-- R128: a step of round 2. -/
def Obligations.StepGUpdatesTheWorkingWords : Prop :=
  (∀ w : MicroWord, w.extractLsb' 4 5 = 0b01101 → decodeMicro w = some (.stepG (w.extractLsb' 0 4))) ∧
  ∀ (s : State) (j : BitVec 4), ∃ x : Word, ∃ n : Nat,
    x = s.r[0] + ((s.r[1] &&& s.r[3]) ||| (s.r[2] &&& ~~~s.r[3])) + s.m[(1 + 5 * (16 + j.toNat)) % 16]
      + romT (1#2 ++ j) ∧
    n = [5, 9, 14, 20].getD (j.toNat % 4) 0 ∧
    exec (.stepG j) s = .next { s with
      r := #v[s.r[3], s.r[1] + ((x <<< n) ||| (x >>> (32 - n))), s.r[1], s.r[2]], step := (1#2 ++ j) + 1 }

/-- R129: a step of round 3. -/
def Obligations.StepHUpdatesTheWorkingWords : Prop :=
  (∀ w : MicroWord, w.extractLsb' 4 5 = 0b01110 → decodeMicro w = some (.stepH (w.extractLsb' 0 4))) ∧
  ∀ (s : State) (j : BitVec 4), ∃ x : Word, ∃ n : Nat,
    x = s.r[0] + (s.r[1] ^^^ s.r[2] ^^^ s.r[3]) + s.m[(5 + 3 * (32 + j.toNat)) % 16] + romT (2#2 ++ j) ∧
    n = [4, 11, 16, 23].getD (j.toNat % 4) 0 ∧
    exec (.stepH j) s = .next { s with
      r := #v[s.r[3], s.r[1] + ((x <<< n) ||| (x >>> (32 - n))), s.r[1], s.r[2]], step := (2#2 ++ j) + 1 }

/-- R130: a step of round 4; step 63 returns STEP to 0 and enters ITER_FEED. -/
def Obligations.StepIUpdatesTheWorkingWords : Prop :=
  (∀ w : MicroWord, w.extractLsb' 4 5 = 0b01111 → decodeMicro w = some (.stepI (w.extractLsb' 0 4))) ∧
  ∀ (s : State) (j : BitVec 4), ∃ x : Word, ∃ n : Nat,
    x = s.r[0] + (s.r[2] ^^^ (s.r[1] ||| ~~~s.r[3])) + s.m[7 * (48 + j.toNat) % 16] + romT (3#2 ++ j) ∧
    n = [6, 10, 15, 21].getD (j.toNat % 4) 0 ∧
    exec (.stepI j) s = .next { s with
      r := #v[s.r[3], s.r[1] + ((x <<< n) ||| (x >>> (32 - n))), s.r[1], s.r[2]],
      step := if j = 15 then 0 else (3#2 ++ j) + 1,
      phase := if j = 15 then .iterFeed else s.phase }

/-- R131: after every fourth step the shift form of R126 holds exactly what RFC 1321's form, which updates the words in place, holds. -/
def Obligations.ShiftFormAgreesWithRoleRenaming : Prop :=
  ∀ (m : Vector Word 16) (r : Vector Word 4) (q : Nat), q < 16 →
    roundsTo m r (4 * q + 4) = rfcRoundsTo m r (4 * q + 4)

/-- R132: FEED adds r into H word by word, increments BLK, and goes to the next block or to FINALIZING by the incremented BLK, which
never exceeds NBLK. Nothing else changes. -/
def Obligations.FeedAccumulatesAndEndsTheBlock : Prop :=
  (∀ w : MicroWord, w.extractLsb' 6 3 = 4 → decodeMicro w = some .feed) ∧
  ∀ s : State, ∃ t, exec .feed s = .next t ∧
    (∀ j : Fin 4, (t.h[j]).toNat = ((s.h[j]).toNat + (s.r[j]).toNat) % 2 ^ 32) ∧ t.blk = s.blk + 1 ∧
    t.phase = (if s.blk + 1 < s.nblk then .iterLoad else .finalizing) ∧
    t = { s with h := t.h, blk := t.blk, phase := t.phase } ∧
    (s.Inv → s.phase = .iterFeed → t.blk.toNat ≤ t.nblk.toNat)

/-! ### Finalizer and digest -/

/-- R140: FINAL copies H to DIGEST, with no addition, and enters DONE; STATUS.DONE is then 1 and `irq` rises if IRQ_EN = 1. -/
def Obligations.FinalCopiesTheChainingState : Prop :=
  (∀ w : MicroWord, w.extractLsb' 6 3 = 5 → decodeMicro w = some .final) ∧
  ∀ s : State, ∃ t, exec .final s = .next t ∧ t = { s with digest := s.h, phase := .done } ∧
    t.statusWord.getLsbD 4 = true ∧ t.irq = s.irqEn

/-- R141: the digest's sixteen bytes, and R142: they are the bytes of the window from 0x30 up, in order. -/
def Obligations.DigestBytesAreLittleEndianWords : Prop :=
  (∀ d : Vector Word 4, (digestBytes d).length = 16 ∧
    ∀ j t : Fin 4, (digestBytes d)[4 * j.val + t.val]? = some ((d[j] >>> (8 * t.val)).setWidth 8)) ∧
  ∀ (s : State) (n : BitVec 4), (digestBytes s.digest)[n.toNat]? = some (s.windowByte (0b11#2 ++ n))

/-! ### Frames and whole-machine rules -/

/-- The frame of the micro-ops: none touches SRC, LEN, IRQ_EN, ERR_BUSY, InMem or the model's own fields, and each of the other
registers changes by the micro-ops its rule names alone (R21 to R28, R32, R33). -/
def Obligations.MicroOpsFrame : Prop :=
  ∀ (i : Instr) (s t : State), isMicroOp i = true → exec i s = .next t →
    SameOperands s t ∧ t.irqEn = s.irqEn ∧ t.errBusy = s.errBusy ∧ SameInMem s t ∧ SameSetting s t ∧
    t.busRdata = s.busRdata ∧
    (i ≠ .pad → t.nblk = s.nblk ∧ t.errTooLarge = s.errTooLarge ∧ t.errRange = s.errRange) ∧
    (i ≠ .load → t.m = s.m) ∧ (i ≠ .feed → t.h = s.h ∧ t.blk = s.blk) ∧ (i ≠ .final → t.digest = s.digest) ∧
    (i = .pad ∨ i = .feed ∨ i = .final → t.r = s.r ∧ t.step = s.step)

/-- No step but the host's own write changes InMem (R62), and none changes ADDR_W (R7). That InMem stays over the reset line and CLEAR is
the model's (log 20), as are the host's turn that writes InMem (log 9) and ADDR_W in the state (log 6). -/
def Obligations.CoreAndBusNeverWriteInMem : Prop :=
  ∀ s t : State, step s = .next t →
    t.addrW = s.addrW ∧ ((∀ a b, s.moves.head? ≠ some (.memWrite a b)) → t.inMem = s.inMem)

/-- R144: DIGEST keeps its value until the next FINAL, a CLEAR or a reset. -/
def Obligations.DigestChangesOnlyByFinalClearOrReset : Prop :=
  ∀ s t : State, step s = .next t → t.digest ≠ s.digest → (s.runs .final ∧ t.digest = s.h) ∨ s.resetsNext

/-- R32: which step sets each error flag and that it does, and that nothing but an accepted START, a CLEAR or a reset clears one; each
of those clears all three. -/
def Obligations.ErrorFlagsAreSticky : Prop :=
  ∀ s t : State, step s = .next t →
    (s.errTooLarge = false → t.errTooLarge = true → s.runs .pad ∧ 2 ^ 61 ≤ s.len.toNat) ∧
    (s.errRange = false → t.errRange = true → s.runs .pad ∧ 2 ^ s.addrW < s.src.toNat + s.len.toNat) ∧
    (s.errBusy = false → t.errBusy = true → s.busy = true ∧
      ∃ hi data, s.runs (.wrSrc hi data) ∨ s.runs (.wrLen hi data) ∨ s.runs (.wrCtrlStart data)) ∧
    (s.runs .pad → (2 ^ 61 ≤ s.len.toNat → t.errTooLarge = true) ∧
      (2 ^ s.addrW < s.src.toNat + s.len.toNat → t.errRange = true)) ∧
    (s.busy = true → (∃ hi data, s.runs (.wrSrc hi data) ∨ s.runs (.wrLen hi data) ∨ s.runs (.wrCtrlStart data)) →
      t.errBusy = true) ∧
    (s.errTooLarge = true ∧ t.errTooLarge = false ∨ s.errRange = true ∧ t.errRange = false ∨
      s.errBusy = true ∧ t.errBusy = false → s.startsNext ∨ s.resetsNext) ∧
    (s.startsNext ∨ s.resetsNext → t.errTooLarge = false ∧ t.errRange = false ∧ t.errBusy = false)

/-- R188: the state on entry to ERROR, which PAD alone makes. -/
def Obligations.EntryToErrorRecordsTheFlagsAlone : Prop :=
  ∀ s t : State, s.Inv → step s = .next t → s.phase ≠ .error → t.phase = .error →
    s.runs .pad ∧ t.errTooLarge = decide (2 ^ 61 ≤ s.len.toNat) ∧
    t.errRange = decide (2 ^ s.addrW < s.src.toNat + s.len.toNat) ∧ (t.errTooLarge = true ∨ t.errRange = true) ∧
    t.blk = 0 ∧ t.step = 0 ∧ t.nblk = 0 ∧ SameOperands s t ∧ t.irqEn = s.irqEn ∧ t.digest = s.digest ∧ t.h = iv ∧
    t.r = s.r ∧ t.m = s.m

/-- R189: ERROR is left only by an accepted START, a CLEAR or a reset; START keeps SRC and LEN, and in ERROR the core performs no
micro-op. -/
def Obligations.ErrorIsLeftOnlyByStartClearOrReset : Prop :=
  ∀ s t : State, s.phase = .error → step s = .next t →
    decodeMicro s.microWord = none ∧ (t.phase ≠ .error → s.startsNext ∧ t.phase = .padding ∧ SameOperands s t ∨ s.resetsNext)

/-- R186: the level of `irq` and its bit of STATUS, what writes and clears its enable, and what raises and lowers it. -/
def Obligations.IrqFollowsEnableAndPhase : Prop :=
  (∀ s : State, (s.irq = true ↔ s.irqEn = true ∧ (s.phase = .done ∨ s.phase = .error)) ∧
    s.statusWord.getLsbD 8 = s.irq) ∧
  ∀ s t : State, step s = .next t →
    (∀ data, s.runs (.wrCtrlStart data) ∨ s.runs (.wrCtrlCfg data) → t.irqEn = data.getLsbD 2) ∧
    (s.resetsNext → t.irqEn = false) ∧
    (t.irqEn ≠ s.irqEn → (∃ data, s.runs (.wrCtrlStart data) ∨ s.runs (.wrCtrlCfg data)) ∨ s.resetsNext) ∧
    (s.irq = true → t.irq = false →
      s.startsNext ∨ s.resetsNext ∨ ∃ data, s.runs (.wrCtrlCfg data) ∧ data.getLsbD 2 = false) ∧
    (s.irq = false → t.irq = true →
      s.runs .pad ∨ s.runs .final ∨ ∃ data, s.runs (.wrCtrlCfg data) ∧ data.getLsbD 2 = true)

/-- R112 with R27: BLK changes by FEED alone, by one, or returns to 0 with an accepted START, a CLEAR or a reset; a FEED comes after
the block's step 63 and leads to the next block's LOAD, or to FINALIZING at the last. -/
def Obligations.BlocksAreVisitedInOrder : Prop :=
  ∀ s t : State, s.Inv → step s = .next t →
    (t.blk ≠ s.blk → s.runs .feed ∧ t.blk.toNat = s.blk.toNat + 1 ∨ (s.startsNext ∨ s.resetsNext) ∧ t.blk = 0) ∧
    (t.phase = .iterFeed → s.phase ≠ .iterFeed → s.phase = .iterRound ∧ s.step = 63) ∧
    (s.runs .feed → t.phase = if t.blk = t.nblk then .finalizing else .iterLoad)

/-- While the core stays BUSY the message is fixed: SRC, LEN and the bytes they name (R60, R72 by log 9, R204). -/
def Obligations.MessageIsFixedWhileBusy : Prop :=
  ∀ s t : State, s.Inv → step s = .next t → s.busy = true → t.busy = true → SameOperands s t ∧ t.message = s.message

/-- R51's last paragraph: a register whose value a reset leaves unspecified is never read before it is written. Two states that agree
on every register a later step can still read take steps that agree on them again, or stop alike. -/
def Obligations.UnspecifiedRegistersAreNeverRead : Prop :=
  ∀ s t : State, s.live = t.live →
    (∀ s', step s = .next s' → ∃ t', step t = .next t' ∧ s'.live = t'.live) ∧
    (∀ f, step s = .fault f → step t = .fault f) ∧ (∀ r, step s = .refused r → step t = .refused r)

/-! ### The invariant -/

/-- The invariant and the computation's contents hold at reset. -/
def Obligations.InvariantHoldsAtReset : Prop := State.reset.Inv ∧ State.reset.computes

/-- Every step keeps the invariant: ADDR_W legal (R7), InMem canonical and inside its addresses (R60), SRC inside them (R29), STEP 0
outside ITER_ROUND (R26), and BLK, NBLK, H and the flags as each phase has them (R27, R28, R103, R160, R187, R188). -/
def Obligations.EveryStepKeepsTheInvariant : Prop :=
  ∀ s t : State, s.Inv → step s = .next t → t.Inv

/-- The bounds of the sequencer's position, R27, R28 and R46: BLK never passes NBLK, which is at most 2^55 + 1. -/
def Obligations.PositionStaysInBounds : Prop :=
  ∀ s t : State, s.Inv → step s = .next t → t.blk.toNat ≤ t.nblk.toNat ∧ t.nblk.toNat ≤ 2 ^ 55 + 1 ∧
    (t.busy = true → t.phase = .padding ∨ t.nblk.toNat = (t.len.toNat + 8) / 64 + 1)

/-- A turn of the core never stops the machine: "no rule ever faults" (R51, R111). -/
def Obligations.CoreTurnsAlwaysComplete : Prop :=
  ∀ s : State, s.Inv → s.coreIsNext → ∃ t, step s = .next t

/-- The registers of a computation hold what R110, R126, R132 and R133 say, at every step: H the chaining value before block BLK of
the padded message, M the block's words, r the working words after STEP steps, and H the message's transform in FINALIZING. -/
def Obligations.EveryStepKeepsTheComputation : Prop :=
  ∀ s t : State, s.Inv → s.computes → step s = .next t → t.computes

/-- R143: the step that enters DONE leaves the transform of the message in DIGEST, whatever ran in between. -/
def Obligations.DoneHoldsTheTransformOfTheMessage : Prop :=
  ∀ s t : State, s.Inv → s.computes → step s = .next t → s.phase ≠ .done → t.phase = .done →
    t.digest = transform s.message ∧ t.h = t.digest

/-- R206: the micro-ops of a computation are counted: an accepted START leaves 2 + 66·NBLK(L) of them for an admitted message and one
for a rejected one; each turn of the core while BUSY takes exactly one off, and none is left exactly when the core is not BUSY. -/
def Obligations.EveryCoreTurnTakesOneMicroOpOff : Prop :=
  (∀ s t : State, s.Inv → s.startsNext → step s = .next t →
    t.remaining = if s.len.toNat < 2 ^ 61 ∧ s.src.toNat + s.len.toNat ≤ 2 ^ s.addrW
      then 2 + 66 * ((s.len.toNat + 8) / 64 + 1) else 1) ∧
  (∀ s t : State, s.Inv → s.coreIsNext → s.busy = true → step s = .next t → t.remaining + 1 = s.remaining) ∧
  ∀ s : State, s.Inv → (s.remaining = 0 ↔ s.busy = false)

/-- R143 and R206 together: from any state that meets the invariant and is not BUSY, a START and then the core's turns alone reach
DONE after 2 + 66·NBLK(L) micro-ops with the transform of the message in DIGEST, or, for a message PAD rejects, ERROR after one. That the
empty list of turns gives the turn to the core is the model's (log 1). -/
def Obligations.ComputationEndsWithTheDigest : Prop :=
  ∀ (s : State) (data : Word), s.Inv → s.busy = false → data.getLsbD 1 = false → data.getLsbD 0 = true →
    s.moves = [.bus ⟨32, writeDesc 0x00 data⟩] →
    (s.admits → ∃ t, core.run (1 + (2 + 66 * blockCount s.len.toNat)) s = .next t ∧ t.phase = .done ∧
      t.digest = transform s.message ∧ t.irq = data.getLsbD 2) ∧
    (¬ s.admits → ∃ t, core.run (1 + 1) s = .next t ∧ t.phase = .error ∧ t.digest = s.digest)
end

