-- ==== Sys2Proof/Laws/Decode.lean ====
section
/-! SUPPORT. A descriptor in two parts, its header {WE, Z, ADDR} and its DATA: a row of R82 is a condition on the eight bits of the
header and, for a CTRL write, on DATA[1:0]. -/

namespace Sys2Proof

/-- The header {WE, Z, ADDR} of a descriptor. -/
abbrev descHeader (d : Desc) : BitVec 8 := d.extractLsb' 32 8

theorem desc_eq_append (d : Desc) : d = descHeader d ++ descData d := by
  apply BitVec.eq_of_getLsbD_eq
  intro k hk
  rw [BitVec.getLsbD_append]
  simp only [descHeader, descData, BitVec.getLsbD_extractLsb']
  by_cases h : k < 32
  · simp [h]
  · simp [h, show k - 32 < 8 by omega, show 32 + (k - 32) = k by omega]

theorem desc_eq_iff (d e : Desc) : d = e ↔ descHeader d = descHeader e ∧ descData d = descData e := by
  constructor
  · rintro rfl; exact ⟨rfl, rfl⟩
  · rintro ⟨h1, h2⟩; rw [desc_eq_append d, desc_eq_append e, h1, h2]

/-- A row applies by parts. -/
theorem DescRow.applies_iff (row : DescRow) (d : Desc) :
    row.applies d = true ↔
      descHeader d &&& descHeader row.mask = descHeader row.pattern
      ∧ descData d &&& descData row.mask = descData row.pattern := by
  simp only [DescRow.applies, beq_iff_eq, desc_eq_iff, descHeader, descData, BitVec.extractLsb'_and]

theorem descHeader_mkDesc (we : Bool) (addr : BitVec 6) (data : Word) :
    descHeader (mkDesc we addr data) = BitVec.ofBool we ++ 0#1 ++ addr := by
  simp only [descHeader, mkDesc]
  exact BitVec.extractLsb'_append_eq_left

theorem descData_mkDesc (we : Bool) (addr : BitVec 6) (data : Word) : descData (mkDesc we addr data) = data := by
  simp only [descData, mkDesc]
  exact BitVec.extractLsb'_append_eq_right

/-- HI is a bit of the header. -/
theorem descHi_eq (d : Desc) : descHi d = (descHeader d).getLsbD 2 := by
  simp [descHi, descHeader]

/-- N is a field of the header. -/
theorem descN_eq (d : Desc) : descN d = (descHeader d).extractLsb' 2 2 := by
  apply BitVec.eq_of_getLsbD_eq
  intro k hk
  simp only [descN, descHeader, BitVec.getLsbD_extractLsb']
  simp [hk, show 2 + k < 8 by omega, show 32 + (2 + k) = 34 + k by omega]

theorem descHi_mkDesc (we : Bool) (addr : BitVec 6) (data : Word) : descHi (mkDesc we addr data) = addr.getLsbD 2 := by
  rw [descHi_eq, descHeader_mkDesc]
  revert we addr
  decide

theorem descN_mkDesc (we : Bool) (addr : BitVec 6) (data : Word) :
    descN (mkDesc we addr data) = addr.extractLsb' 2 2 := by
  rw [descN_eq, descHeader_mkDesc]
  revert we addr
  decide

/-- Z and ADDR[1:0] are bits of the header. -/
theorem descLegal_eq (d : Desc) :
    descLegal d = (!(descHeader d).getLsbD 6 && !(descHeader d).getLsbD 1 && !(descHeader d).getLsbD 0) := by
  simp [descLegal, descZ, descHeader]

/-- DATA[1] as a masked word, WR_CTRL_CLEAR's condition (R82). -/
theorem data_and_two (w : Word) : w &&& 2 = 2 ↔ w.getLsbD 1 = true := by
  constructor
  · intro h
    have := congrArg (BitVec.getLsbD · 1) h
    simpa using this
  · intro h
    apply BitVec.eq_of_getLsbD_eq
    intro k hk
    match k with
    | 0 => simp
    | 1 => simp [h]
    | k + 2 =>
      have : (2#32).getLsbD (k + 2) = false := by
        simp only [BitVec.getLsbD_ofNat]
        simp [Nat.testBit_succ]
      simp [this]

theorem three_getLsbD (k : Nat) : (3#32).getLsbD (k + 2) = false := by
  simp only [BitVec.getLsbD_ofNat]
  simp [Nat.testBit_succ]

/-- DATA[1:0] = 01, WR_CTRL_START's condition (R82). -/
theorem data_and_three_one (w : Word) : w &&& 3 = 1 ↔ w.getLsbD 1 = false ∧ w.getLsbD 0 = true := by
  constructor
  · intro h
    have h0 := congrArg (BitVec.getLsbD · 0) h
    have h1 := congrArg (BitVec.getLsbD · 1) h
    exact ⟨by simpa using h1, by simpa using h0⟩
  · rintro ⟨h1, h0⟩
    apply BitVec.eq_of_getLsbD_eq
    intro k hk
    match k with
    | 0 => rw [BitVec.getLsbD_and, h0]; rfl
    | 1 => rw [BitVec.getLsbD_and, h1]; rfl
    | k + 2 => simp [three_getLsbD]

/-- DATA[1:0] = 00, WR_CTRL_CFG's condition (R82). -/
theorem data_and_three_zero (w : Word) : w &&& 3 = 0 ↔ w.getLsbD 1 = false ∧ w.getLsbD 0 = false := by
  constructor
  · intro h
    have h0 := congrArg (BitVec.getLsbD · 0) h
    have h1 := congrArg (BitVec.getLsbD · 1) h
    exact ⟨by simpa using h1, by simpa using h0⟩
  · rintro ⟨h1, h0⟩
    apply BitVec.eq_of_getLsbD_eq
    intro k hk
    match k with
    | 0 => rw [BitVec.getLsbD_and, h0]; rfl
    | 1 => rw [BitVec.getLsbD_and, h1]; rfl
    | k + 2 => simp [three_getLsbD]

theorem and_two_beq (w : Word) : (w &&& 2#32 == 2#32) = w.getLsbD 1 := by
  rw [Bool.eq_iff_iff, beq_iff_eq]
  exact data_and_two w

theorem and_three_beq_one (w : Word) : (w &&& 3#32 == 1#32) = (!w.getLsbD 1 && w.getLsbD 0) := by
  rw [Bool.eq_iff_iff, beq_iff_eq]
  exact (data_and_three_one w).trans (by simp)

theorem and_three_beq_zero (w : Word) : (w &&& 3#32 == 0#32) = (!w.getLsbD 1 && !w.getLsbD 0) := by
  rw [Bool.eq_iff_iff, beq_iff_eq]
  exact (data_and_three_zero w).trans (by simp)

/-- A row applies by parts, as a Bool. -/
theorem DescRow.applies_parts (row : DescRow) (d : Desc) :
    row.applies d = (descHeader d &&& descHeader row.mask == descHeader row.pattern
      && (descData d &&& descData row.mask == descData row.pattern)) := by
  rw [Bool.eq_iff_iff, DescRow.applies_iff]
  simp

theorem map_find?_cons {α β : Type} (p : α → Bool) (f : α → β) (a : α) (l : List α) :
    ((a :: l).find? p).map f = if p a then some (f a) else (l.find? p).map f := by
  rw [List.find?_cons]
  cases p a <;> rfl

/-- The decode by the header's eight bits: what R82's table comes to at each offset, for reads and writes. -/
def opOfHeader (header : BitVec 8) (data : Word) : Option Instr :=
  match header.toNat with
  | 0x00 => some .rdCtrl
  | 0x04 => some .rdStatus
  | 0x08 => some (.rdSrc false)
  | 0x0C => some (.rdSrc true)
  | 0x10 => some (.rdLen false)
  | 0x14 => some (.rdLen true)
  | 0x18 => some (.rdNblk false)
  | 0x1C => some (.rdNblk true)
  | 0x20 => some (.rdBlk false)
  | 0x24 => some (.rdBlk true)
  | 0x28 => some .rdStep
  | 0x2C => some .rdRsvd
  | 0x30 => some (.rdDigest 0)
  | 0x34 => some (.rdDigest 1)
  | 0x38 => some (.rdDigest 2)
  | 0x3C => some (.rdDigest 3)
  | 0x80 =>
    if data.getLsbD 1 then some (.wrCtrlClear data)
    else if data.getLsbD 0 then some (.wrCtrlStart data) else some (.wrCtrlCfg data)
  | 0x84 => some (.wrStatus data)
  | 0x88 => some (.wrSrc false data)
  | 0x8C => some (.wrSrc true data)
  | 0x90 => some (.wrLen false data)
  | 0x94 => some (.wrLen true data)
  | 0x98 => some (.wrNblk false data)
  | 0x9C => some (.wrNblk true data)
  | 0xA0 => some (.wrBlk false data)
  | 0xA4 => some (.wrBlk true data)
  | 0xA8 => some (.wrStep data)
  | 0xAC => some (.wrRsvd data)
  | 0xB0 => some (.wrDigest 0 data)
  | 0xB4 => some (.wrDigest 1 data)
  | 0xB8 => some (.wrDigest 2 data)
  | 0xBC => some (.wrDigest 3 data)
  | _ => none

/-- The table's decode is the decode by the header. -/
theorem decodeDesc_eq (d : Desc) : decodeDesc d = opOfHeader (descHeader d) (descData d) := by
  simp only [decodeDesc, descTable, readRows, ctrlRows, writeRows, List.cons_append, List.nil_append, map_find?_cons,
    List.find?_nil, DescRow.applies_parts, descHi_eq, descN_eq]
  generalize descHeader d = header
  generalize descData d = w
  have and_zero : ∀ x : Word, (x &&& 0#32 == 0#32) = true := by simp
  simp only [descData, descHeader, BitVec.reduceExtractLsb', and_zero, Bool.and_true, BitVec.ofNat_eq_ofNat,
    and_two_beq, and_three_beq_one, and_three_beq_zero]
  simp only [opOfHeader]
  generalize w.getLsbD 1 = b1
  generalize w.getLsbD 0 = b0
  obtain ⟨n, hn, rfl⟩ : ∃ n, n < 256 ∧ header = BitVec.ofNat 8 n := ⟨header.toNat, header.isLt, by simp⟩
  interval_cases n <;> first | rfl | (cases b1 <;> cases b0 <;> rfl)

end Sys2Proof
end

