-- ==== Sys2Proof/Laws/State.lean ====
section
/-! SUPPORT. One lemma per field per named update of State (Machine/Ops.lean), each true by rfl, so that no proof unfolds a record
update. -/

namespace Sys2Proof.Machine

variable (s : State)

/-! ### setPhase -/

@[simp] theorem setPhase_addrW (v : Phase) : (s.setPhase v).addrW = s.addrW := rfl
@[simp] theorem setPhase_phase (v : Phase) : (s.setPhase v).phase = v := rfl
@[simp] theorem setPhase_step (v : Phase) : (s.setPhase v).step = s.step := rfl
@[simp] theorem setPhase_blk (v : Phase) : (s.setPhase v).blk = s.blk := rfl
@[simp] theorem setPhase_nblk (v : Phase) : (s.setPhase v).nblk = s.nblk := rfl
@[simp] theorem setPhase_src (v : Phase) : (s.setPhase v).src = s.src := rfl
@[simp] theorem setPhase_len (v : Phase) : (s.setPhase v).len = s.len := rfl
@[simp] theorem setPhase_irqEn (v : Phase) : (s.setPhase v).irqEn = s.irqEn := rfl
@[simp] theorem setPhase_errTooLarge (v : Phase) : (s.setPhase v).errTooLarge = s.errTooLarge := rfl
@[simp] theorem setPhase_errRange (v : Phase) : (s.setPhase v).errRange = s.errRange := rfl
@[simp] theorem setPhase_errBusy (v : Phase) : (s.setPhase v).errBusy = s.errBusy := rfl
@[simp] theorem setPhase_digest (v : Phase) : (s.setPhase v).digest = s.digest := rfl
@[simp] theorem setPhase_h (v : Phase) : (s.setPhase v).h = s.h := rfl
@[simp] theorem setPhase_r (v : Phase) : (s.setPhase v).r = s.r := rfl
@[simp] theorem setPhase_m (v : Phase) : (s.setPhase v).m = s.m := rfl
@[simp] theorem setPhase_inMem (v : Phase) : (s.setPhase v).inMem = s.inMem := rfl
@[simp] theorem setPhase_moves (v : Phase) : (s.setPhase v).moves = s.moves := rfl
@[simp] theorem setPhase_busRdata (v : Phase) : (s.setPhase v).busRdata = s.busRdata := rfl
@[simp] theorem setPhase_freeIdx (v : Phase) : (s.setPhase v).freeIdx = s.freeIdx := rfl

/-! ### setStep -/

@[simp] theorem setStep_addrW (v : BitVec 6) : (s.setStep v).addrW = s.addrW := rfl
@[simp] theorem setStep_phase (v : BitVec 6) : (s.setStep v).phase = s.phase := rfl
@[simp] theorem setStep_step (v : BitVec 6) : (s.setStep v).step = v := rfl
@[simp] theorem setStep_blk (v : BitVec 6) : (s.setStep v).blk = s.blk := rfl
@[simp] theorem setStep_nblk (v : BitVec 6) : (s.setStep v).nblk = s.nblk := rfl
@[simp] theorem setStep_src (v : BitVec 6) : (s.setStep v).src = s.src := rfl
@[simp] theorem setStep_len (v : BitVec 6) : (s.setStep v).len = s.len := rfl
@[simp] theorem setStep_irqEn (v : BitVec 6) : (s.setStep v).irqEn = s.irqEn := rfl
@[simp] theorem setStep_errTooLarge (v : BitVec 6) : (s.setStep v).errTooLarge = s.errTooLarge := rfl
@[simp] theorem setStep_errRange (v : BitVec 6) : (s.setStep v).errRange = s.errRange := rfl
@[simp] theorem setStep_errBusy (v : BitVec 6) : (s.setStep v).errBusy = s.errBusy := rfl
@[simp] theorem setStep_digest (v : BitVec 6) : (s.setStep v).digest = s.digest := rfl
@[simp] theorem setStep_h (v : BitVec 6) : (s.setStep v).h = s.h := rfl
@[simp] theorem setStep_r (v : BitVec 6) : (s.setStep v).r = s.r := rfl
@[simp] theorem setStep_m (v : BitVec 6) : (s.setStep v).m = s.m := rfl
@[simp] theorem setStep_inMem (v : BitVec 6) : (s.setStep v).inMem = s.inMem := rfl
@[simp] theorem setStep_moves (v : BitVec 6) : (s.setStep v).moves = s.moves := rfl
@[simp] theorem setStep_busRdata (v : BitVec 6) : (s.setStep v).busRdata = s.busRdata := rfl
@[simp] theorem setStep_freeIdx (v : BitVec 6) : (s.setStep v).freeIdx = s.freeIdx := rfl

/-! ### setBlk -/

@[simp] theorem setBlk_addrW (v : DWord) : (s.setBlk v).addrW = s.addrW := rfl
@[simp] theorem setBlk_phase (v : DWord) : (s.setBlk v).phase = s.phase := rfl
@[simp] theorem setBlk_step (v : DWord) : (s.setBlk v).step = s.step := rfl
@[simp] theorem setBlk_blk (v : DWord) : (s.setBlk v).blk = v := rfl
@[simp] theorem setBlk_nblk (v : DWord) : (s.setBlk v).nblk = s.nblk := rfl
@[simp] theorem setBlk_src (v : DWord) : (s.setBlk v).src = s.src := rfl
@[simp] theorem setBlk_len (v : DWord) : (s.setBlk v).len = s.len := rfl
@[simp] theorem setBlk_irqEn (v : DWord) : (s.setBlk v).irqEn = s.irqEn := rfl
@[simp] theorem setBlk_errTooLarge (v : DWord) : (s.setBlk v).errTooLarge = s.errTooLarge := rfl
@[simp] theorem setBlk_errRange (v : DWord) : (s.setBlk v).errRange = s.errRange := rfl
@[simp] theorem setBlk_errBusy (v : DWord) : (s.setBlk v).errBusy = s.errBusy := rfl
@[simp] theorem setBlk_digest (v : DWord) : (s.setBlk v).digest = s.digest := rfl
@[simp] theorem setBlk_h (v : DWord) : (s.setBlk v).h = s.h := rfl
@[simp] theorem setBlk_r (v : DWord) : (s.setBlk v).r = s.r := rfl
@[simp] theorem setBlk_m (v : DWord) : (s.setBlk v).m = s.m := rfl
@[simp] theorem setBlk_inMem (v : DWord) : (s.setBlk v).inMem = s.inMem := rfl
@[simp] theorem setBlk_moves (v : DWord) : (s.setBlk v).moves = s.moves := rfl
@[simp] theorem setBlk_busRdata (v : DWord) : (s.setBlk v).busRdata = s.busRdata := rfl
@[simp] theorem setBlk_freeIdx (v : DWord) : (s.setBlk v).freeIdx = s.freeIdx := rfl

/-! ### setNblk -/

@[simp] theorem setNblk_addrW (v : DWord) : (s.setNblk v).addrW = s.addrW := rfl
@[simp] theorem setNblk_phase (v : DWord) : (s.setNblk v).phase = s.phase := rfl
@[simp] theorem setNblk_step (v : DWord) : (s.setNblk v).step = s.step := rfl
@[simp] theorem setNblk_blk (v : DWord) : (s.setNblk v).blk = s.blk := rfl
@[simp] theorem setNblk_nblk (v : DWord) : (s.setNblk v).nblk = v := rfl
@[simp] theorem setNblk_src (v : DWord) : (s.setNblk v).src = s.src := rfl
@[simp] theorem setNblk_len (v : DWord) : (s.setNblk v).len = s.len := rfl
@[simp] theorem setNblk_irqEn (v : DWord) : (s.setNblk v).irqEn = s.irqEn := rfl
@[simp] theorem setNblk_errTooLarge (v : DWord) : (s.setNblk v).errTooLarge = s.errTooLarge := rfl
@[simp] theorem setNblk_errRange (v : DWord) : (s.setNblk v).errRange = s.errRange := rfl
@[simp] theorem setNblk_errBusy (v : DWord) : (s.setNblk v).errBusy = s.errBusy := rfl
@[simp] theorem setNblk_digest (v : DWord) : (s.setNblk v).digest = s.digest := rfl
@[simp] theorem setNblk_h (v : DWord) : (s.setNblk v).h = s.h := rfl
@[simp] theorem setNblk_r (v : DWord) : (s.setNblk v).r = s.r := rfl
@[simp] theorem setNblk_m (v : DWord) : (s.setNblk v).m = s.m := rfl
@[simp] theorem setNblk_inMem (v : DWord) : (s.setNblk v).inMem = s.inMem := rfl
@[simp] theorem setNblk_moves (v : DWord) : (s.setNblk v).moves = s.moves := rfl
@[simp] theorem setNblk_busRdata (v : DWord) : (s.setNblk v).busRdata = s.busRdata := rfl
@[simp] theorem setNblk_freeIdx (v : DWord) : (s.setNblk v).freeIdx = s.freeIdx := rfl

/-! ### setSrc -/

@[simp] theorem setSrc_addrW (v : DWord) : (s.setSrc v).addrW = s.addrW := rfl
@[simp] theorem setSrc_phase (v : DWord) : (s.setSrc v).phase = s.phase := rfl
@[simp] theorem setSrc_step (v : DWord) : (s.setSrc v).step = s.step := rfl
@[simp] theorem setSrc_blk (v : DWord) : (s.setSrc v).blk = s.blk := rfl
@[simp] theorem setSrc_nblk (v : DWord) : (s.setSrc v).nblk = s.nblk := rfl
@[simp] theorem setSrc_src (v : DWord) : (s.setSrc v).src = v := rfl
@[simp] theorem setSrc_len (v : DWord) : (s.setSrc v).len = s.len := rfl
@[simp] theorem setSrc_irqEn (v : DWord) : (s.setSrc v).irqEn = s.irqEn := rfl
@[simp] theorem setSrc_errTooLarge (v : DWord) : (s.setSrc v).errTooLarge = s.errTooLarge := rfl
@[simp] theorem setSrc_errRange (v : DWord) : (s.setSrc v).errRange = s.errRange := rfl
@[simp] theorem setSrc_errBusy (v : DWord) : (s.setSrc v).errBusy = s.errBusy := rfl
@[simp] theorem setSrc_digest (v : DWord) : (s.setSrc v).digest = s.digest := rfl
@[simp] theorem setSrc_h (v : DWord) : (s.setSrc v).h = s.h := rfl
@[simp] theorem setSrc_r (v : DWord) : (s.setSrc v).r = s.r := rfl
@[simp] theorem setSrc_m (v : DWord) : (s.setSrc v).m = s.m := rfl
@[simp] theorem setSrc_inMem (v : DWord) : (s.setSrc v).inMem = s.inMem := rfl
@[simp] theorem setSrc_moves (v : DWord) : (s.setSrc v).moves = s.moves := rfl
@[simp] theorem setSrc_busRdata (v : DWord) : (s.setSrc v).busRdata = s.busRdata := rfl
@[simp] theorem setSrc_freeIdx (v : DWord) : (s.setSrc v).freeIdx = s.freeIdx := rfl

/-! ### setLen -/

@[simp] theorem setLen_addrW (v : DWord) : (s.setLen v).addrW = s.addrW := rfl
@[simp] theorem setLen_phase (v : DWord) : (s.setLen v).phase = s.phase := rfl
@[simp] theorem setLen_step (v : DWord) : (s.setLen v).step = s.step := rfl
@[simp] theorem setLen_blk (v : DWord) : (s.setLen v).blk = s.blk := rfl
@[simp] theorem setLen_nblk (v : DWord) : (s.setLen v).nblk = s.nblk := rfl
@[simp] theorem setLen_src (v : DWord) : (s.setLen v).src = s.src := rfl
@[simp] theorem setLen_len (v : DWord) : (s.setLen v).len = v := rfl
@[simp] theorem setLen_irqEn (v : DWord) : (s.setLen v).irqEn = s.irqEn := rfl
@[simp] theorem setLen_errTooLarge (v : DWord) : (s.setLen v).errTooLarge = s.errTooLarge := rfl
@[simp] theorem setLen_errRange (v : DWord) : (s.setLen v).errRange = s.errRange := rfl
@[simp] theorem setLen_errBusy (v : DWord) : (s.setLen v).errBusy = s.errBusy := rfl
@[simp] theorem setLen_digest (v : DWord) : (s.setLen v).digest = s.digest := rfl
@[simp] theorem setLen_h (v : DWord) : (s.setLen v).h = s.h := rfl
@[simp] theorem setLen_r (v : DWord) : (s.setLen v).r = s.r := rfl
@[simp] theorem setLen_m (v : DWord) : (s.setLen v).m = s.m := rfl
@[simp] theorem setLen_inMem (v : DWord) : (s.setLen v).inMem = s.inMem := rfl
@[simp] theorem setLen_moves (v : DWord) : (s.setLen v).moves = s.moves := rfl
@[simp] theorem setLen_busRdata (v : DWord) : (s.setLen v).busRdata = s.busRdata := rfl
@[simp] theorem setLen_freeIdx (v : DWord) : (s.setLen v).freeIdx = s.freeIdx := rfl

/-! ### setIrqEn -/

@[simp] theorem setIrqEn_addrW (v : Bool) : (s.setIrqEn v).addrW = s.addrW := rfl
@[simp] theorem setIrqEn_phase (v : Bool) : (s.setIrqEn v).phase = s.phase := rfl
@[simp] theorem setIrqEn_step (v : Bool) : (s.setIrqEn v).step = s.step := rfl
@[simp] theorem setIrqEn_blk (v : Bool) : (s.setIrqEn v).blk = s.blk := rfl
@[simp] theorem setIrqEn_nblk (v : Bool) : (s.setIrqEn v).nblk = s.nblk := rfl
@[simp] theorem setIrqEn_src (v : Bool) : (s.setIrqEn v).src = s.src := rfl
@[simp] theorem setIrqEn_len (v : Bool) : (s.setIrqEn v).len = s.len := rfl
@[simp] theorem setIrqEn_irqEn (v : Bool) : (s.setIrqEn v).irqEn = v := rfl
@[simp] theorem setIrqEn_errTooLarge (v : Bool) : (s.setIrqEn v).errTooLarge = s.errTooLarge := rfl
@[simp] theorem setIrqEn_errRange (v : Bool) : (s.setIrqEn v).errRange = s.errRange := rfl
@[simp] theorem setIrqEn_errBusy (v : Bool) : (s.setIrqEn v).errBusy = s.errBusy := rfl
@[simp] theorem setIrqEn_digest (v : Bool) : (s.setIrqEn v).digest = s.digest := rfl
@[simp] theorem setIrqEn_h (v : Bool) : (s.setIrqEn v).h = s.h := rfl
@[simp] theorem setIrqEn_r (v : Bool) : (s.setIrqEn v).r = s.r := rfl
@[simp] theorem setIrqEn_m (v : Bool) : (s.setIrqEn v).m = s.m := rfl
@[simp] theorem setIrqEn_inMem (v : Bool) : (s.setIrqEn v).inMem = s.inMem := rfl
@[simp] theorem setIrqEn_moves (v : Bool) : (s.setIrqEn v).moves = s.moves := rfl
@[simp] theorem setIrqEn_busRdata (v : Bool) : (s.setIrqEn v).busRdata = s.busRdata := rfl
@[simp] theorem setIrqEn_freeIdx (v : Bool) : (s.setIrqEn v).freeIdx = s.freeIdx := rfl

/-! ### setDigest -/

@[simp] theorem setDigest_addrW (v : Vector Word 4) : (s.setDigest v).addrW = s.addrW := rfl
@[simp] theorem setDigest_phase (v : Vector Word 4) : (s.setDigest v).phase = s.phase := rfl
@[simp] theorem setDigest_step (v : Vector Word 4) : (s.setDigest v).step = s.step := rfl
@[simp] theorem setDigest_blk (v : Vector Word 4) : (s.setDigest v).blk = s.blk := rfl
@[simp] theorem setDigest_nblk (v : Vector Word 4) : (s.setDigest v).nblk = s.nblk := rfl
@[simp] theorem setDigest_src (v : Vector Word 4) : (s.setDigest v).src = s.src := rfl
@[simp] theorem setDigest_len (v : Vector Word 4) : (s.setDigest v).len = s.len := rfl
@[simp] theorem setDigest_irqEn (v : Vector Word 4) : (s.setDigest v).irqEn = s.irqEn := rfl
@[simp] theorem setDigest_errTooLarge (v : Vector Word 4) : (s.setDigest v).errTooLarge = s.errTooLarge := rfl
@[simp] theorem setDigest_errRange (v : Vector Word 4) : (s.setDigest v).errRange = s.errRange := rfl
@[simp] theorem setDigest_errBusy (v : Vector Word 4) : (s.setDigest v).errBusy = s.errBusy := rfl
@[simp] theorem setDigest_digest (v : Vector Word 4) : (s.setDigest v).digest = v := rfl
@[simp] theorem setDigest_h (v : Vector Word 4) : (s.setDigest v).h = s.h := rfl
@[simp] theorem setDigest_r (v : Vector Word 4) : (s.setDigest v).r = s.r := rfl
@[simp] theorem setDigest_m (v : Vector Word 4) : (s.setDigest v).m = s.m := rfl
@[simp] theorem setDigest_inMem (v : Vector Word 4) : (s.setDigest v).inMem = s.inMem := rfl
@[simp] theorem setDigest_moves (v : Vector Word 4) : (s.setDigest v).moves = s.moves := rfl
@[simp] theorem setDigest_busRdata (v : Vector Word 4) : (s.setDigest v).busRdata = s.busRdata := rfl
@[simp] theorem setDigest_freeIdx (v : Vector Word 4) : (s.setDigest v).freeIdx = s.freeIdx := rfl

/-! ### setH -/

@[simp] theorem setH_addrW (v : Vector Word 4) : (s.setH v).addrW = s.addrW := rfl
@[simp] theorem setH_phase (v : Vector Word 4) : (s.setH v).phase = s.phase := rfl
@[simp] theorem setH_step (v : Vector Word 4) : (s.setH v).step = s.step := rfl
@[simp] theorem setH_blk (v : Vector Word 4) : (s.setH v).blk = s.blk := rfl
@[simp] theorem setH_nblk (v : Vector Word 4) : (s.setH v).nblk = s.nblk := rfl
@[simp] theorem setH_src (v : Vector Word 4) : (s.setH v).src = s.src := rfl
@[simp] theorem setH_len (v : Vector Word 4) : (s.setH v).len = s.len := rfl
@[simp] theorem setH_irqEn (v : Vector Word 4) : (s.setH v).irqEn = s.irqEn := rfl
@[simp] theorem setH_errTooLarge (v : Vector Word 4) : (s.setH v).errTooLarge = s.errTooLarge := rfl
@[simp] theorem setH_errRange (v : Vector Word 4) : (s.setH v).errRange = s.errRange := rfl
@[simp] theorem setH_errBusy (v : Vector Word 4) : (s.setH v).errBusy = s.errBusy := rfl
@[simp] theorem setH_digest (v : Vector Word 4) : (s.setH v).digest = s.digest := rfl
@[simp] theorem setH_h (v : Vector Word 4) : (s.setH v).h = v := rfl
@[simp] theorem setH_r (v : Vector Word 4) : (s.setH v).r = s.r := rfl
@[simp] theorem setH_m (v : Vector Word 4) : (s.setH v).m = s.m := rfl
@[simp] theorem setH_inMem (v : Vector Word 4) : (s.setH v).inMem = s.inMem := rfl
@[simp] theorem setH_moves (v : Vector Word 4) : (s.setH v).moves = s.moves := rfl
@[simp] theorem setH_busRdata (v : Vector Word 4) : (s.setH v).busRdata = s.busRdata := rfl
@[simp] theorem setH_freeIdx (v : Vector Word 4) : (s.setH v).freeIdx = s.freeIdx := rfl

/-! ### setR -/

@[simp] theorem setR_addrW (v : Vector Word 4) : (s.setR v).addrW = s.addrW := rfl
@[simp] theorem setR_phase (v : Vector Word 4) : (s.setR v).phase = s.phase := rfl
@[simp] theorem setR_step (v : Vector Word 4) : (s.setR v).step = s.step := rfl
@[simp] theorem setR_blk (v : Vector Word 4) : (s.setR v).blk = s.blk := rfl
@[simp] theorem setR_nblk (v : Vector Word 4) : (s.setR v).nblk = s.nblk := rfl
@[simp] theorem setR_src (v : Vector Word 4) : (s.setR v).src = s.src := rfl
@[simp] theorem setR_len (v : Vector Word 4) : (s.setR v).len = s.len := rfl
@[simp] theorem setR_irqEn (v : Vector Word 4) : (s.setR v).irqEn = s.irqEn := rfl
@[simp] theorem setR_errTooLarge (v : Vector Word 4) : (s.setR v).errTooLarge = s.errTooLarge := rfl
@[simp] theorem setR_errRange (v : Vector Word 4) : (s.setR v).errRange = s.errRange := rfl
@[simp] theorem setR_errBusy (v : Vector Word 4) : (s.setR v).errBusy = s.errBusy := rfl
@[simp] theorem setR_digest (v : Vector Word 4) : (s.setR v).digest = s.digest := rfl
@[simp] theorem setR_h (v : Vector Word 4) : (s.setR v).h = s.h := rfl
@[simp] theorem setR_r (v : Vector Word 4) : (s.setR v).r = v := rfl
@[simp] theorem setR_m (v : Vector Word 4) : (s.setR v).m = s.m := rfl
@[simp] theorem setR_inMem (v : Vector Word 4) : (s.setR v).inMem = s.inMem := rfl
@[simp] theorem setR_moves (v : Vector Word 4) : (s.setR v).moves = s.moves := rfl
@[simp] theorem setR_busRdata (v : Vector Word 4) : (s.setR v).busRdata = s.busRdata := rfl
@[simp] theorem setR_freeIdx (v : Vector Word 4) : (s.setR v).freeIdx = s.freeIdx := rfl

/-! ### setM -/

@[simp] theorem setM_addrW (v : Vector Word 16) : (s.setM v).addrW = s.addrW := rfl
@[simp] theorem setM_phase (v : Vector Word 16) : (s.setM v).phase = s.phase := rfl
@[simp] theorem setM_step (v : Vector Word 16) : (s.setM v).step = s.step := rfl
@[simp] theorem setM_blk (v : Vector Word 16) : (s.setM v).blk = s.blk := rfl
@[simp] theorem setM_nblk (v : Vector Word 16) : (s.setM v).nblk = s.nblk := rfl
@[simp] theorem setM_src (v : Vector Word 16) : (s.setM v).src = s.src := rfl
@[simp] theorem setM_len (v : Vector Word 16) : (s.setM v).len = s.len := rfl
@[simp] theorem setM_irqEn (v : Vector Word 16) : (s.setM v).irqEn = s.irqEn := rfl
@[simp] theorem setM_errTooLarge (v : Vector Word 16) : (s.setM v).errTooLarge = s.errTooLarge := rfl
@[simp] theorem setM_errRange (v : Vector Word 16) : (s.setM v).errRange = s.errRange := rfl
@[simp] theorem setM_errBusy (v : Vector Word 16) : (s.setM v).errBusy = s.errBusy := rfl
@[simp] theorem setM_digest (v : Vector Word 16) : (s.setM v).digest = s.digest := rfl
@[simp] theorem setM_h (v : Vector Word 16) : (s.setM v).h = s.h := rfl
@[simp] theorem setM_r (v : Vector Word 16) : (s.setM v).r = s.r := rfl
@[simp] theorem setM_m (v : Vector Word 16) : (s.setM v).m = v := rfl
@[simp] theorem setM_inMem (v : Vector Word 16) : (s.setM v).inMem = s.inMem := rfl
@[simp] theorem setM_moves (v : Vector Word 16) : (s.setM v).moves = s.moves := rfl
@[simp] theorem setM_busRdata (v : Vector Word 16) : (s.setM v).busRdata = s.busRdata := rfl
@[simp] theorem setM_freeIdx (v : Vector Word 16) : (s.setM v).freeIdx = s.freeIdx := rfl

/-! ### setInMem -/

@[simp] theorem setInMem_addrW (v : Memory) : (s.setInMem v).addrW = s.addrW := rfl
@[simp] theorem setInMem_phase (v : Memory) : (s.setInMem v).phase = s.phase := rfl
@[simp] theorem setInMem_step (v : Memory) : (s.setInMem v).step = s.step := rfl
@[simp] theorem setInMem_blk (v : Memory) : (s.setInMem v).blk = s.blk := rfl
@[simp] theorem setInMem_nblk (v : Memory) : (s.setInMem v).nblk = s.nblk := rfl
@[simp] theorem setInMem_src (v : Memory) : (s.setInMem v).src = s.src := rfl
@[simp] theorem setInMem_len (v : Memory) : (s.setInMem v).len = s.len := rfl
@[simp] theorem setInMem_irqEn (v : Memory) : (s.setInMem v).irqEn = s.irqEn := rfl
@[simp] theorem setInMem_errTooLarge (v : Memory) : (s.setInMem v).errTooLarge = s.errTooLarge := rfl
@[simp] theorem setInMem_errRange (v : Memory) : (s.setInMem v).errRange = s.errRange := rfl
@[simp] theorem setInMem_errBusy (v : Memory) : (s.setInMem v).errBusy = s.errBusy := rfl
@[simp] theorem setInMem_digest (v : Memory) : (s.setInMem v).digest = s.digest := rfl
@[simp] theorem setInMem_h (v : Memory) : (s.setInMem v).h = s.h := rfl
@[simp] theorem setInMem_r (v : Memory) : (s.setInMem v).r = s.r := rfl
@[simp] theorem setInMem_m (v : Memory) : (s.setInMem v).m = s.m := rfl
@[simp] theorem setInMem_inMem (v : Memory) : (s.setInMem v).inMem = v := rfl
@[simp] theorem setInMem_moves (v : Memory) : (s.setInMem v).moves = s.moves := rfl
@[simp] theorem setInMem_busRdata (v : Memory) : (s.setInMem v).busRdata = s.busRdata := rfl
@[simp] theorem setInMem_freeIdx (v : Memory) : (s.setInMem v).freeIdx = s.freeIdx := rfl

/-! ### setMoves -/

@[simp] theorem setMoves_addrW (v : List Move) : (s.setMoves v).addrW = s.addrW := rfl
@[simp] theorem setMoves_phase (v : List Move) : (s.setMoves v).phase = s.phase := rfl
@[simp] theorem setMoves_step (v : List Move) : (s.setMoves v).step = s.step := rfl
@[simp] theorem setMoves_blk (v : List Move) : (s.setMoves v).blk = s.blk := rfl
@[simp] theorem setMoves_nblk (v : List Move) : (s.setMoves v).nblk = s.nblk := rfl
@[simp] theorem setMoves_src (v : List Move) : (s.setMoves v).src = s.src := rfl
@[simp] theorem setMoves_len (v : List Move) : (s.setMoves v).len = s.len := rfl
@[simp] theorem setMoves_irqEn (v : List Move) : (s.setMoves v).irqEn = s.irqEn := rfl
@[simp] theorem setMoves_errTooLarge (v : List Move) : (s.setMoves v).errTooLarge = s.errTooLarge := rfl
@[simp] theorem setMoves_errRange (v : List Move) : (s.setMoves v).errRange = s.errRange := rfl
@[simp] theorem setMoves_errBusy (v : List Move) : (s.setMoves v).errBusy = s.errBusy := rfl
@[simp] theorem setMoves_digest (v : List Move) : (s.setMoves v).digest = s.digest := rfl
@[simp] theorem setMoves_h (v : List Move) : (s.setMoves v).h = s.h := rfl
@[simp] theorem setMoves_r (v : List Move) : (s.setMoves v).r = s.r := rfl
@[simp] theorem setMoves_m (v : List Move) : (s.setMoves v).m = s.m := rfl
@[simp] theorem setMoves_inMem (v : List Move) : (s.setMoves v).inMem = s.inMem := rfl
@[simp] theorem setMoves_moves (v : List Move) : (s.setMoves v).moves = v := rfl
@[simp] theorem setMoves_busRdata (v : List Move) : (s.setMoves v).busRdata = s.busRdata := rfl
@[simp] theorem setMoves_freeIdx (v : List Move) : (s.setMoves v).freeIdx = s.freeIdx := rfl

/-! ### setFreeIdx -/

@[simp] theorem setFreeIdx_addrW (v : Nat) : (s.setFreeIdx v).addrW = s.addrW := rfl
@[simp] theorem setFreeIdx_phase (v : Nat) : (s.setFreeIdx v).phase = s.phase := rfl
@[simp] theorem setFreeIdx_step (v : Nat) : (s.setFreeIdx v).step = s.step := rfl
@[simp] theorem setFreeIdx_blk (v : Nat) : (s.setFreeIdx v).blk = s.blk := rfl
@[simp] theorem setFreeIdx_nblk (v : Nat) : (s.setFreeIdx v).nblk = s.nblk := rfl
@[simp] theorem setFreeIdx_src (v : Nat) : (s.setFreeIdx v).src = s.src := rfl
@[simp] theorem setFreeIdx_len (v : Nat) : (s.setFreeIdx v).len = s.len := rfl
@[simp] theorem setFreeIdx_irqEn (v : Nat) : (s.setFreeIdx v).irqEn = s.irqEn := rfl
@[simp] theorem setFreeIdx_errTooLarge (v : Nat) : (s.setFreeIdx v).errTooLarge = s.errTooLarge := rfl
@[simp] theorem setFreeIdx_errRange (v : Nat) : (s.setFreeIdx v).errRange = s.errRange := rfl
@[simp] theorem setFreeIdx_errBusy (v : Nat) : (s.setFreeIdx v).errBusy = s.errBusy := rfl
@[simp] theorem setFreeIdx_digest (v : Nat) : (s.setFreeIdx v).digest = s.digest := rfl
@[simp] theorem setFreeIdx_h (v : Nat) : (s.setFreeIdx v).h = s.h := rfl
@[simp] theorem setFreeIdx_r (v : Nat) : (s.setFreeIdx v).r = s.r := rfl
@[simp] theorem setFreeIdx_m (v : Nat) : (s.setFreeIdx v).m = s.m := rfl
@[simp] theorem setFreeIdx_inMem (v : Nat) : (s.setFreeIdx v).inMem = s.inMem := rfl
@[simp] theorem setFreeIdx_moves (v : Nat) : (s.setFreeIdx v).moves = s.moves := rfl
@[simp] theorem setFreeIdx_busRdata (v : Nat) : (s.setFreeIdx v).busRdata = s.busRdata := rfl
@[simp] theorem setFreeIdx_freeIdx (v : Nat) : (s.setFreeIdx v).freeIdx = v := rfl

/-! ### setErrors -/

@[simp] theorem setErrors_addrW (a b c : Bool) : (s.setErrors a b c).addrW = s.addrW := rfl
@[simp] theorem setErrors_phase (a b c : Bool) : (s.setErrors a b c).phase = s.phase := rfl
@[simp] theorem setErrors_step (a b c : Bool) : (s.setErrors a b c).step = s.step := rfl
@[simp] theorem setErrors_blk (a b c : Bool) : (s.setErrors a b c).blk = s.blk := rfl
@[simp] theorem setErrors_nblk (a b c : Bool) : (s.setErrors a b c).nblk = s.nblk := rfl
@[simp] theorem setErrors_src (a b c : Bool) : (s.setErrors a b c).src = s.src := rfl
@[simp] theorem setErrors_len (a b c : Bool) : (s.setErrors a b c).len = s.len := rfl
@[simp] theorem setErrors_irqEn (a b c : Bool) : (s.setErrors a b c).irqEn = s.irqEn := rfl
@[simp] theorem setErrors_errTooLarge (a b c : Bool) : (s.setErrors a b c).errTooLarge = a := rfl
@[simp] theorem setErrors_errRange (a b c : Bool) : (s.setErrors a b c).errRange = b := rfl
@[simp] theorem setErrors_errBusy (a b c : Bool) : (s.setErrors a b c).errBusy = c := rfl
@[simp] theorem setErrors_digest (a b c : Bool) : (s.setErrors a b c).digest = s.digest := rfl
@[simp] theorem setErrors_h (a b c : Bool) : (s.setErrors a b c).h = s.h := rfl
@[simp] theorem setErrors_r (a b c : Bool) : (s.setErrors a b c).r = s.r := rfl
@[simp] theorem setErrors_m (a b c : Bool) : (s.setErrors a b c).m = s.m := rfl
@[simp] theorem setErrors_inMem (a b c : Bool) : (s.setErrors a b c).inMem = s.inMem := rfl
@[simp] theorem setErrors_moves (a b c : Bool) : (s.setErrors a b c).moves = s.moves := rfl
@[simp] theorem setErrors_busRdata (a b c : Bool) : (s.setErrors a b c).busRdata = s.busRdata := rfl
@[simp] theorem setErrors_freeIdx (a b c : Bool) : (s.setErrors a b c).freeIdx = s.freeIdx := rfl

/-! ### respond -/

@[simp] theorem respond_addrW (w : Word) : (s.respond w).addrW = s.addrW := rfl
@[simp] theorem respond_phase (w : Word) : (s.respond w).phase = s.phase := rfl
@[simp] theorem respond_step (w : Word) : (s.respond w).step = s.step := rfl
@[simp] theorem respond_blk (w : Word) : (s.respond w).blk = s.blk := rfl
@[simp] theorem respond_nblk (w : Word) : (s.respond w).nblk = s.nblk := rfl
@[simp] theorem respond_src (w : Word) : (s.respond w).src = s.src := rfl
@[simp] theorem respond_len (w : Word) : (s.respond w).len = s.len := rfl
@[simp] theorem respond_irqEn (w : Word) : (s.respond w).irqEn = s.irqEn := rfl
@[simp] theorem respond_errTooLarge (w : Word) : (s.respond w).errTooLarge = s.errTooLarge := rfl
@[simp] theorem respond_errRange (w : Word) : (s.respond w).errRange = s.errRange := rfl
@[simp] theorem respond_errBusy (w : Word) : (s.respond w).errBusy = s.errBusy := rfl
@[simp] theorem respond_digest (w : Word) : (s.respond w).digest = s.digest := rfl
@[simp] theorem respond_h (w : Word) : (s.respond w).h = s.h := rfl
@[simp] theorem respond_r (w : Word) : (s.respond w).r = s.r := rfl
@[simp] theorem respond_m (w : Word) : (s.respond w).m = s.m := rfl
@[simp] theorem respond_inMem (w : Word) : (s.respond w).inMem = s.inMem := rfl
@[simp] theorem respond_moves (w : Word) : (s.respond w).moves = s.moves := rfl
@[simp] theorem respond_busRdata (w : Word) : (s.respond w).busRdata = some w := rfl
@[simp] theorem respond_freeIdx (w : Word) : (s.respond w).freeIdx = s.freeIdx := rfl

/-! ### noResponse -/

@[simp] theorem noResponse_addrW : s.noResponse.addrW = s.addrW := rfl
@[simp] theorem noResponse_phase : s.noResponse.phase = s.phase := rfl
@[simp] theorem noResponse_step : s.noResponse.step = s.step := rfl
@[simp] theorem noResponse_blk : s.noResponse.blk = s.blk := rfl
@[simp] theorem noResponse_nblk : s.noResponse.nblk = s.nblk := rfl
@[simp] theorem noResponse_src : s.noResponse.src = s.src := rfl
@[simp] theorem noResponse_len : s.noResponse.len = s.len := rfl
@[simp] theorem noResponse_irqEn : s.noResponse.irqEn = s.irqEn := rfl
@[simp] theorem noResponse_errTooLarge : s.noResponse.errTooLarge = s.errTooLarge := rfl
@[simp] theorem noResponse_errRange : s.noResponse.errRange = s.errRange := rfl
@[simp] theorem noResponse_errBusy : s.noResponse.errBusy = s.errBusy := rfl
@[simp] theorem noResponse_digest : s.noResponse.digest = s.digest := rfl
@[simp] theorem noResponse_h : s.noResponse.h = s.h := rfl
@[simp] theorem noResponse_r : s.noResponse.r = s.r := rfl
@[simp] theorem noResponse_m : s.noResponse.m = s.m := rfl
@[simp] theorem noResponse_inMem : s.noResponse.inMem = s.inMem := rfl
@[simp] theorem noResponse_moves : s.noResponse.moves = s.moves := rfl
@[simp] theorem noResponse_busRdata : s.noResponse.busRdata = none := rfl
@[simp] theorem noResponse_freeIdx : s.noResponse.freeIdx = s.freeIdx := rfl

/-! ### takeTurn -/

@[simp] theorem takeTurn_addrW : s.takeTurn.addrW = s.addrW := rfl
@[simp] theorem takeTurn_phase : s.takeTurn.phase = s.phase := rfl
@[simp] theorem takeTurn_step : s.takeTurn.step = s.step := rfl
@[simp] theorem takeTurn_blk : s.takeTurn.blk = s.blk := rfl
@[simp] theorem takeTurn_nblk : s.takeTurn.nblk = s.nblk := rfl
@[simp] theorem takeTurn_src : s.takeTurn.src = s.src := rfl
@[simp] theorem takeTurn_len : s.takeTurn.len = s.len := rfl
@[simp] theorem takeTurn_irqEn : s.takeTurn.irqEn = s.irqEn := rfl
@[simp] theorem takeTurn_errTooLarge : s.takeTurn.errTooLarge = s.errTooLarge := rfl
@[simp] theorem takeTurn_errRange : s.takeTurn.errRange = s.errRange := rfl
@[simp] theorem takeTurn_errBusy : s.takeTurn.errBusy = s.errBusy := rfl
@[simp] theorem takeTurn_digest : s.takeTurn.digest = s.digest := rfl
@[simp] theorem takeTurn_h : s.takeTurn.h = s.h := rfl
@[simp] theorem takeTurn_r : s.takeTurn.r = s.r := rfl
@[simp] theorem takeTurn_m : s.takeTurn.m = s.m := rfl
@[simp] theorem takeTurn_inMem : s.takeTurn.inMem = s.inMem := rfl
@[simp] theorem takeTurn_moves : s.takeTurn.moves = s.moves.tail := rfl
@[simp] theorem takeTurn_busRdata : s.takeTurn.busRdata = none := rfl
@[simp] theorem takeTurn_freeIdx : s.takeTurn.freeIdx = s.freeIdx := rfl

/-! ### enterError -/

@[simp] theorem enterError_addrW (a b : Bool) : (s.enterError a b).addrW = s.addrW := rfl
@[simp] theorem enterError_phase (a b : Bool) : (s.enterError a b).phase = .error := rfl
@[simp] theorem enterError_step (a b : Bool) : (s.enterError a b).step = s.step := rfl
@[simp] theorem enterError_blk (a b : Bool) : (s.enterError a b).blk = s.blk := rfl
@[simp] theorem enterError_nblk (a b : Bool) : (s.enterError a b).nblk = s.nblk := rfl
@[simp] theorem enterError_src (a b : Bool) : (s.enterError a b).src = s.src := rfl
@[simp] theorem enterError_len (a b : Bool) : (s.enterError a b).len = s.len := rfl
@[simp] theorem enterError_irqEn (a b : Bool) : (s.enterError a b).irqEn = s.irqEn := rfl
@[simp] theorem enterError_errTooLarge (a b : Bool) : (s.enterError a b).errTooLarge = (s.errTooLarge || a) := rfl
@[simp] theorem enterError_errRange (a b : Bool) : (s.enterError a b).errRange = (s.errRange || b) := rfl
@[simp] theorem enterError_errBusy (a b : Bool) : (s.enterError a b).errBusy = s.errBusy := rfl
@[simp] theorem enterError_digest (a b : Bool) : (s.enterError a b).digest = s.digest := rfl
@[simp] theorem enterError_h (a b : Bool) : (s.enterError a b).h = s.h := rfl
@[simp] theorem enterError_r (a b : Bool) : (s.enterError a b).r = s.r := rfl
@[simp] theorem enterError_m (a b : Bool) : (s.enterError a b).m = s.m := rfl
@[simp] theorem enterError_inMem (a b : Bool) : (s.enterError a b).inMem = s.inMem := rfl
@[simp] theorem enterError_moves (a b : Bool) : (s.enterError a b).moves = s.moves := rfl
@[simp] theorem enterError_busRdata (a b : Bool) : (s.enterError a b).busRdata = s.busRdata := rfl
@[simp] theorem enterError_freeIdx (a b : Bool) : (s.enterError a b).freeIdx = s.freeIdx := rfl

/-! ### noteBusy -/

@[simp] theorem noteBusy_addrW : s.noteBusy.addrW = s.addrW := rfl
@[simp] theorem noteBusy_phase : s.noteBusy.phase = s.phase := rfl
@[simp] theorem noteBusy_step : s.noteBusy.step = s.step := rfl
@[simp] theorem noteBusy_blk : s.noteBusy.blk = s.blk := rfl
@[simp] theorem noteBusy_nblk : s.noteBusy.nblk = s.nblk := rfl
@[simp] theorem noteBusy_src : s.noteBusy.src = s.src := rfl
@[simp] theorem noteBusy_len : s.noteBusy.len = s.len := rfl
@[simp] theorem noteBusy_irqEn : s.noteBusy.irqEn = s.irqEn := rfl
@[simp] theorem noteBusy_errTooLarge : s.noteBusy.errTooLarge = s.errTooLarge := rfl
@[simp] theorem noteBusy_errRange : s.noteBusy.errRange = s.errRange := rfl
@[simp] theorem noteBusy_errBusy : s.noteBusy.errBusy = true := rfl
@[simp] theorem noteBusy_digest : s.noteBusy.digest = s.digest := rfl
@[simp] theorem noteBusy_h : s.noteBusy.h = s.h := rfl
@[simp] theorem noteBusy_r : s.noteBusy.r = s.r := rfl
@[simp] theorem noteBusy_m : s.noteBusy.m = s.m := rfl
@[simp] theorem noteBusy_inMem : s.noteBusy.inMem = s.inMem := rfl
@[simp] theorem noteBusy_moves : s.noteBusy.moves = s.moves := rfl
@[simp] theorem noteBusy_busRdata : s.noteBusy.busRdata = s.busRdata := rfl
@[simp] theorem noteBusy_freeIdx : s.noteBusy.freeIdx = s.freeIdx := rfl

/-! ### acceptStart -/

@[simp] theorem acceptStart_addrW : s.acceptStart.addrW = s.addrW := rfl
@[simp] theorem acceptStart_phase : s.acceptStart.phase = .padding := rfl
@[simp] theorem acceptStart_step : s.acceptStart.step = 0 := rfl
@[simp] theorem acceptStart_blk : s.acceptStart.blk = 0 := rfl
@[simp] theorem acceptStart_nblk : s.acceptStart.nblk = 0 := rfl
@[simp] theorem acceptStart_src : s.acceptStart.src = s.src := rfl
@[simp] theorem acceptStart_len : s.acceptStart.len = s.len := rfl
@[simp] theorem acceptStart_irqEn : s.acceptStart.irqEn = s.irqEn := rfl
@[simp] theorem acceptStart_errTooLarge : s.acceptStart.errTooLarge = false := rfl
@[simp] theorem acceptStart_errRange : s.acceptStart.errRange = false := rfl
@[simp] theorem acceptStart_errBusy : s.acceptStart.errBusy = false := rfl
@[simp] theorem acceptStart_digest : s.acceptStart.digest = s.digest := rfl
@[simp] theorem acceptStart_h : s.acceptStart.h = iv := rfl
@[simp] theorem acceptStart_r : s.acceptStart.r = s.r := rfl
@[simp] theorem acceptStart_m : s.acceptStart.m = s.m := rfl
@[simp] theorem acceptStart_inMem : s.acceptStart.inMem = s.inMem := rfl
@[simp] theorem acceptStart_moves : s.acceptStart.moves = s.moves := rfl
@[simp] theorem acceptStart_busRdata : s.acceptStart.busRdata = s.busRdata := rfl
@[simp] theorem acceptStart_freeIdx : s.acceptStart.freeIdx = s.freeIdx := rfl

/-! ### resetCore -/

@[simp] theorem resetCore_addrW : s.resetCore.addrW = s.addrW := rfl
@[simp] theorem resetCore_phase : s.resetCore.phase = .idle := rfl
@[simp] theorem resetCore_step : s.resetCore.step = 0 := rfl
@[simp] theorem resetCore_blk : s.resetCore.blk = 0 := rfl
@[simp] theorem resetCore_nblk : s.resetCore.nblk = 0 := rfl
@[simp] theorem resetCore_src : s.resetCore.src = 0 := rfl
@[simp] theorem resetCore_len : s.resetCore.len = 0 := rfl
@[simp] theorem resetCore_irqEn : s.resetCore.irqEn = false := rfl
@[simp] theorem resetCore_errTooLarge : s.resetCore.errTooLarge = false := rfl
@[simp] theorem resetCore_errRange : s.resetCore.errRange = false := rfl
@[simp] theorem resetCore_errBusy : s.resetCore.errBusy = false := rfl
@[simp] theorem resetCore_digest : s.resetCore.digest = #v[0, 0, 0, 0] := rfl
@[simp] theorem resetCore_h : s.resetCore.h = freeWords4 s.freeIdx := rfl
@[simp] theorem resetCore_r : s.resetCore.r = freeWords4 (s.freeIdx + 4) := rfl
@[simp] theorem resetCore_m : s.resetCore.m = freeWords16 (s.freeIdx + 8) := rfl
@[simp] theorem resetCore_inMem : s.resetCore.inMem = s.inMem := rfl
@[simp] theorem resetCore_moves : s.resetCore.moves = s.moves := rfl
@[simp] theorem resetCore_busRdata : s.resetCore.busRdata = s.busRdata := rfl
@[simp] theorem resetCore_freeIdx : s.resetCore.freeIdx = s.freeIdx + 24 := rfl

end Sys2Proof.Machine
end

