-- ==== Sys2Proof/Laws/Flags.lean ====
section
/-! SUPPORT. The phase's code and the values derived from it. -/

namespace Sys2Proof.Machine

/-- The codes of R25 are read back. -/
@[simp] theorem Phase.ofCode_code (p : Phase) : Phase.ofCode p.code = p := by cases p <;> rfl

/-- Every code is a phase's. -/
@[simp] theorem Phase.code_ofCode (c : BitVec 3) : (Phase.ofCode c).code = c := by
  revert c; decide

theorem Phase.code_injective {p q : Phase} (h : p.code = q.code) : p = q := by
  rw [← Phase.ofCode_code p, h, Phase.ofCode_code]

/-- BUSY by phase, R34. -/
theorem Phase.busy_iff (p : Phase) :
    p.busy = true ↔ p = .padding ∨ p = .iterLoad ∨ p = .iterRound ∨ p = .iterFeed ∨ p = .finalizing := by
  cases p <;> decide

/-- The core has no micro-op exactly when it is not BUSY, R34. -/
theorem State.quiescent_eq_not_busy (s : State) : s.quiescent = !s.busy := by
  simp only [State.quiescent, State.busy]
  cases s.phase <;> decide

theorem State.busy_of_phase {s t : State} (h : t.phase = s.phase) : t.busy = s.busy := by
  simp [State.busy, h]

/-- The PHASE field of a micro-op word, R85. -/
theorem State.microWord_phase (s : State) : s.microWord.extractLsb' 6 3 = s.phase.code := by
  simp only [State.microWord, BitVec.extractLsb'_append_eq_left]

/-- The STEP field of a micro-op word, R85. -/
theorem State.microWord_step (s : State) : s.microWord.extractLsb' 0 6 = s.step := by
  simp only [State.microWord, BitVec.extractLsb'_append_eq_right]

/-- `irq` is low while BUSY, R35. -/
theorem State.irq_of_busy {s : State} (h : s.busy = true) : s.irq = false := by
  revert h
  simp only [State.busy, State.irq]
  cases s.phase <;> simp [Phase.busy, Phase.code]

end Sys2Proof.Machine
end

