-- ==== Sys2Proof/Laws/Ops.lean ====
section
/-! SUPPORT. One lemma for each shared operation that says what it does: the compression step by field, the block count's bounds, the
operand forms, and LOAD's outcome. -/

namespace Sys2Proof.Machine

/-! ### compressStep -/

variable (s : State) (fn : Word → Word → Word → Word) (i : BitVec 6)

@[simp] theorem compressStep_addrW : (s.compressStep fn i).addrW = s.addrW := by
  unfold State.compressStep
  split <;> rfl

@[simp] theorem compressStep_phase : (s.compressStep fn i).phase = if i = 63 then .iterFeed else s.phase := by
  unfold State.compressStep
  split <;> rfl

@[simp] theorem compressStep_step : (s.compressStep fn i).step = if i = 63 then 0 else i + 1 := by
  unfold State.compressStep
  split <;> rfl

@[simp] theorem compressStep_blk : (s.compressStep fn i).blk = s.blk := by
  unfold State.compressStep
  split <;> rfl

@[simp] theorem compressStep_nblk : (s.compressStep fn i).nblk = s.nblk := by
  unfold State.compressStep
  split <;> rfl

@[simp] theorem compressStep_src : (s.compressStep fn i).src = s.src := by
  unfold State.compressStep
  split <;> rfl

@[simp] theorem compressStep_len : (s.compressStep fn i).len = s.len := by
  unfold State.compressStep
  split <;> rfl

@[simp] theorem compressStep_irqEn : (s.compressStep fn i).irqEn = s.irqEn := by
  unfold State.compressStep
  split <;> rfl

@[simp] theorem compressStep_errTooLarge : (s.compressStep fn i).errTooLarge = s.errTooLarge := by
  unfold State.compressStep
  split <;> rfl

@[simp] theorem compressStep_errRange : (s.compressStep fn i).errRange = s.errRange := by
  unfold State.compressStep
  split <;> rfl

@[simp] theorem compressStep_errBusy : (s.compressStep fn i).errBusy = s.errBusy := by
  unfold State.compressStep
  split <;> rfl

@[simp] theorem compressStep_digest : (s.compressStep fn i).digest = s.digest := by
  unfold State.compressStep
  split <;> rfl

@[simp] theorem compressStep_h : (s.compressStep fn i).h = s.h := by
  unfold State.compressStep
  split <;> rfl

@[simp] theorem compressStep_r : (s.compressStep fn i).r = stepWords fn i s.m s.r := by
  unfold State.compressStep
  split <;> rfl

@[simp] theorem compressStep_m : (s.compressStep fn i).m = s.m := by
  unfold State.compressStep
  split <;> rfl

@[simp] theorem compressStep_inMem : (s.compressStep fn i).inMem = s.inMem := by
  unfold State.compressStep
  split <;> rfl

@[simp] theorem compressStep_moves : (s.compressStep fn i).moves = s.moves := by
  unfold State.compressStep
  split <;> rfl

@[simp] theorem compressStep_busRdata : (s.compressStep fn i).busRdata = s.busRdata := by
  unfold State.compressStep
  split <;> rfl

@[simp] theorem compressStep_freeIdx : (s.compressStep fn i).freeIdx = s.freeIdx := by
  unfold State.compressStep
  split <;> rfl

/-! ### Words -/

/-- Adding word by word, R132. -/
@[simp] theorem addWords_getElem (x y : Vector Word 4) (j : Nat) (h : j < 4) : (addWords x y)[j] = x[j] + y[j] := by
  simp [addWords]

/-- The word a half of a 64-bit register is, R152 to R155. -/
@[simp] theorem half_insertHalf (hi : Bool) (v : DWord) (data : Word) : half hi (insertHalf hi v data) = data := by
  cases hi
  · exact BitVec.extractLsb'_append_eq_right
  · exact BitVec.extractLsb'_append_eq_left

/-- Writing one half leaves the other, R163 and R164. -/
@[simp] theorem half_insertHalf_other (hi : Bool) (v : DWord) (data : Word) :
    half (!hi) (insertHalf hi v data) = half (!hi) v := by
  cases hi
  · exact BitVec.extractLsb'_append_eq_left
  · exact BitVec.extractLsb'_append_eq_right

/-! ### The padder -/

/-- 64·NBLK(L) holds the message, 0x80 and the trailer, R100. -/
theorem paddedLength_ge (l : Nat) : l + 9 ≤ paddedLength l := by
  unfold paddedLength blockCount
  omega

/-- The largest block count, R28. -/
theorem blockCount_le {l : Nat} (h : l < 2 ^ 61) : blockCount l ≤ 2 ^ 55 + 1 := by
  unfold blockCount
  omega

theorem blockCount_pos (l : Nat) : 0 < blockCount l := by
  unfold blockCount
  omega

/-- NBLK's register holds an admitted message's block count. -/
theorem blockCount_toNat {l : Nat} (h : l < 2 ^ 61) : (BitVec.ofNat 64 (blockCount l)).toNat = blockCount l := by
  have := blockCount_le h
  rw [BitVec.toNat_ofNat]
  exact Nat.mod_eq_of_lt (by omega)

theorem lenTooLarge_iff : s.lenTooLarge = true ↔ 2 ^ 61 ≤ s.len.toNat := by simp [State.lenTooLarge]

theorem pastInMem_iff : s.pastInMem = true ↔ 2 ^ s.addrW < s.src.toNat + s.len.toNat := by simp [State.pastInMem]

/-! ### LOAD -/

/-- The state after a LOAD, R111. -/
def State.loaded (s : State) : State :=
  (((s.setM (s.blockWords s.blk.toNat)).setR s.h).setStep 0).setPhase .iterRound

@[simp] theorem loaded_addrW : s.loaded.addrW = s.addrW := by simp [State.loaded]
@[simp] theorem loaded_phase : s.loaded.phase = .iterRound := by simp [State.loaded]
@[simp] theorem loaded_step : s.loaded.step = 0 := by simp [State.loaded]
@[simp] theorem loaded_blk : s.loaded.blk = s.blk := by simp [State.loaded]
@[simp] theorem loaded_nblk : s.loaded.nblk = s.nblk := by simp [State.loaded]
@[simp] theorem loaded_src : s.loaded.src = s.src := by simp [State.loaded]
@[simp] theorem loaded_len : s.loaded.len = s.len := by simp [State.loaded]
@[simp] theorem loaded_irqEn : s.loaded.irqEn = s.irqEn := by simp [State.loaded]
@[simp] theorem loaded_errTooLarge : s.loaded.errTooLarge = s.errTooLarge := by simp [State.loaded]
@[simp] theorem loaded_errRange : s.loaded.errRange = s.errRange := by simp [State.loaded]
@[simp] theorem loaded_errBusy : s.loaded.errBusy = s.errBusy := by simp [State.loaded]
@[simp] theorem loaded_digest : s.loaded.digest = s.digest := by simp [State.loaded]
@[simp] theorem loaded_h : s.loaded.h = s.h := by simp [State.loaded]
@[simp] theorem loaded_r : s.loaded.r = s.h := by simp [State.loaded]
@[simp] theorem loaded_m : s.loaded.m = s.blockWords s.blk.toNat := by simp [State.loaded]
@[simp] theorem loaded_inMem : s.loaded.inMem = s.inMem := by simp [State.loaded]
@[simp] theorem loaded_moves : s.loaded.moves = s.moves := by simp [State.loaded]
@[simp] theorem loaded_busRdata : s.loaded.busRdata = s.busRdata := by simp [State.loaded]
@[simp] theorem loaded_freeIdx : s.loaded.freeIdx = s.freeIdx := by simp [State.loaded]

/-- The block's message bytes lie in InMem when the whole message does. -/
theorem blockInMem_of_admits {b : Nat} (h : s.src.toNat + s.len.toNat ≤ 2 ^ s.addrW) : s.blockInMem b = true := by
  simp only [State.blockInMem, Bool.or_eq_true, decide_eq_true_eq]
  omega

end Sys2Proof.Machine
end

