-- ==== Sys2Proof/Laws/PerInstr.lean ====
section
/-! SUPPORT. Per-instruction laws. RowMatch: the encoder's word for a well-formed operation is matched by a row of the spec's own
table (R82, R86), and that row builds the operation back. -/

namespace Sys2Proof.Laws

/-- A row applies to a write's descriptor by its header and its data. -/
theorem writeDesc_applies {row : DescRow} {addr : BitVec 6} {data : Word}
    (header : (0b10#2 ++ addr) &&& descHeader row.mask = descHeader row.pattern)
    (low : data &&& descData row.mask = descData row.pattern) : row.applies (writeDesc addr data) = true := by
  rw [DescRow.applies_iff, writeDesc, descHeader_mkDesc, descData_mkDesc]
  exact ⟨header, low⟩

/-- The word of `i` is matched by a row of its table that builds `i`. -/
def RowMatch.Statement (i : Instr) : Prop :=
  i.wellFormed = true →
    match encode i with
    | .desc d => ∃ row ∈ descTable, row.applies d = true ∧ row.build d = i
    | .micro w => ∃ row ∈ microTable, row.applies w = true ∧ row.build w = i

theorem RowMatch.rdCtrl : RowMatch.Statement .rdCtrl := by
  intro _
  refine ⟨descTable[0], List.getElem_mem _, ?_, ?_⟩ <;> rfl

theorem RowMatch.rdStatus : RowMatch.Statement .rdStatus := by
  intro _
  refine ⟨descTable[1], List.getElem_mem _, ?_, ?_⟩ <;> rfl

theorem RowMatch.rdSrc (hi : Bool) : RowMatch.Statement (.rdSrc hi) := by
  intro _
  refine ⟨descTable[2], List.getElem_mem _, ?_, ?_⟩ <;> cases hi <;> rfl

theorem RowMatch.rdLen (hi : Bool) : RowMatch.Statement (.rdLen hi) := by
  intro _
  refine ⟨descTable[3], List.getElem_mem _, ?_, ?_⟩ <;> cases hi <;> rfl

theorem RowMatch.rdNblk (hi : Bool) : RowMatch.Statement (.rdNblk hi) := by
  intro _
  refine ⟨descTable[4], List.getElem_mem _, ?_, ?_⟩ <;> cases hi <;> rfl

theorem RowMatch.rdBlk (hi : Bool) : RowMatch.Statement (.rdBlk hi) := by
  intro _
  refine ⟨descTable[5], List.getElem_mem _, ?_, ?_⟩ <;> cases hi <;> rfl

theorem RowMatch.rdStep : RowMatch.Statement .rdStep := by
  intro _
  refine ⟨descTable[6], List.getElem_mem _, ?_, ?_⟩ <;> rfl

theorem RowMatch.rdRsvd : RowMatch.Statement .rdRsvd := by
  intro _
  refine ⟨descTable[7], List.getElem_mem _, ?_, ?_⟩ <;> rfl

theorem RowMatch.rdDigest (n : BitVec 2) : RowMatch.Statement (.rdDigest n) := by
  intro wf
  clear wf
  refine ⟨descTable[8], List.getElem_mem _, ?_, ?_⟩ <;> revert n <;> decide

theorem RowMatch.wrCtrlClear (data : Word) : RowMatch.Statement (.wrCtrlClear data) := by
  intro h
  simp only [Instr.wellFormed] at h
  have low : data &&& descData descTable[9].mask = descData descTable[9].pattern := by
    rw [show descData descTable[9].mask = 2 from rfl, show descData descTable[9].pattern = 2 from rfl]
    exact (data_and_two data).2 h
  exact ⟨descTable[9], List.getElem_mem _, writeDesc_applies rfl low, by
    simp [descTable, readRows, ctrlRows, writeDesc, descData_mkDesc]⟩

theorem RowMatch.wrCtrlStart (data : Word) : RowMatch.Statement (.wrCtrlStart data) := by
  intro h
  simp only [Instr.wellFormed, Bool.and_eq_true, Bool.not_eq_true'] at h
  have low : data &&& descData descTable[10].mask = descData descTable[10].pattern := by
    rw [show descData descTable[10].mask = 3 from rfl, show descData descTable[10].pattern = 1 from rfl]
    exact (data_and_three_one data).2 h
  exact ⟨descTable[10], List.getElem_mem _, writeDesc_applies rfl low, by
    simp [descTable, readRows, ctrlRows, writeDesc, descData_mkDesc]⟩

theorem RowMatch.wrCtrlCfg (data : Word) : RowMatch.Statement (.wrCtrlCfg data) := by
  intro h
  simp only [Instr.wellFormed, Bool.and_eq_true, Bool.not_eq_true'] at h
  have low : data &&& descData descTable[11].mask = descData descTable[11].pattern := by
    rw [show descData descTable[11].mask = 3 from rfl, show descData descTable[11].pattern = 0 from rfl]
    exact (data_and_three_zero data).2 h
  exact ⟨descTable[11], List.getElem_mem _, writeDesc_applies rfl low, by
    simp [descTable, readRows, ctrlRows, writeDesc, descData_mkDesc]⟩

theorem RowMatch.wrStatus (data : Word) : RowMatch.Statement (.wrStatus data) := by
  intro _
  exact ⟨descTable[12], List.getElem_mem _, writeDesc_applies rfl (BitVec.and_zero ..), by
    simp [descTable, readRows, ctrlRows, writeRows, writeDesc, descData_mkDesc]⟩

theorem RowMatch.wrSrc (hi : Bool) (data : Word) : RowMatch.Statement (.wrSrc hi data) := by
  intro _
  refine ⟨descTable[13], List.getElem_mem _, writeDesc_applies ?_ (BitVec.and_zero ..), ?_⟩
  · cases hi <;> rfl
  · cases hi <;>
      simp only [descTable, readRows, ctrlRows, writeRows, writeDesc, List.cons_append, List.nil_append, List.getElem_cons_succ,
        List.getElem_cons_zero, descData_mkDesc, descHi_mkDesc] <;> rfl

theorem RowMatch.wrLen (hi : Bool) (data : Word) : RowMatch.Statement (.wrLen hi data) := by
  intro _
  refine ⟨descTable[14], List.getElem_mem _, writeDesc_applies ?_ (BitVec.and_zero ..), ?_⟩
  · cases hi <;> rfl
  · cases hi <;>
      simp only [descTable, readRows, ctrlRows, writeRows, writeDesc, List.cons_append, List.nil_append, List.getElem_cons_succ,
        List.getElem_cons_zero, descData_mkDesc, descHi_mkDesc] <;> rfl

theorem RowMatch.wrNblk (hi : Bool) (data : Word) : RowMatch.Statement (.wrNblk hi data) := by
  intro _
  refine ⟨descTable[15], List.getElem_mem _, writeDesc_applies ?_ (BitVec.and_zero ..), ?_⟩
  · cases hi <;> rfl
  · cases hi <;>
      simp only [descTable, readRows, ctrlRows, writeRows, writeDesc, List.cons_append, List.nil_append, List.getElem_cons_succ,
        List.getElem_cons_zero, descData_mkDesc, descHi_mkDesc] <;> rfl

theorem RowMatch.wrBlk (hi : Bool) (data : Word) : RowMatch.Statement (.wrBlk hi data) := by
  intro _
  refine ⟨descTable[16], List.getElem_mem _, writeDesc_applies ?_ (BitVec.and_zero ..), ?_⟩
  · cases hi <;> rfl
  · cases hi <;>
      simp only [descTable, readRows, ctrlRows, writeRows, writeDesc, List.cons_append, List.nil_append, List.getElem_cons_succ,
        List.getElem_cons_zero, descData_mkDesc, descHi_mkDesc] <;> rfl

theorem RowMatch.wrStep (data : Word) : RowMatch.Statement (.wrStep data) := by
  intro _
  exact ⟨descTable[17], List.getElem_mem _, writeDesc_applies rfl (BitVec.and_zero ..), by
    simp [descTable, readRows, ctrlRows, writeRows, writeDesc, descData_mkDesc]⟩

theorem RowMatch.wrRsvd (data : Word) : RowMatch.Statement (.wrRsvd data) := by
  intro _
  exact ⟨descTable[18], List.getElem_mem _, writeDesc_applies rfl (BitVec.and_zero ..), by
    simp [descTable, readRows, ctrlRows, writeRows, writeDesc, descData_mkDesc]⟩

theorem RowMatch.wrDigest (n : BitVec 2) (data : Word) : RowMatch.Statement (.wrDigest n data) := by
  intro wf
  clear wf
  refine ⟨descTable[19], List.getElem_mem _, writeDesc_applies ?_ (BitVec.and_zero ..), ?_⟩
  · revert n; decide
  · simp only [descTable, readRows, ctrlRows, writeRows, writeDesc, List.cons_append, List.nil_append, List.getElem_cons_succ,
      List.getElem_cons_zero, descData_mkDesc, descN_mkDesc, Instr.wrDigest.injEq, and_true]
    revert n; decide

theorem RowMatch.pad : RowMatch.Statement .pad := by
  intro _
  exact ⟨microTable[0], List.getElem_mem _, rfl, rfl⟩

theorem RowMatch.load : RowMatch.Statement .load := by
  intro _
  exact ⟨microTable[1], List.getElem_mem _, rfl, rfl⟩

theorem RowMatch.stepF (j : BitVec 4) : RowMatch.Statement (.stepF j) := by
  intro _
  refine ⟨microTable[2], List.getElem_mem _, ?_, ?_⟩ <;> revert j <;> decide

theorem RowMatch.stepG (j : BitVec 4) : RowMatch.Statement (.stepG j) := by
  intro _
  refine ⟨microTable[3], List.getElem_mem _, ?_, ?_⟩ <;> revert j <;> decide

theorem RowMatch.stepH (j : BitVec 4) : RowMatch.Statement (.stepH j) := by
  intro _
  refine ⟨microTable[4], List.getElem_mem _, ?_, ?_⟩ <;> revert j <;> decide

theorem RowMatch.stepI (j : BitVec 4) : RowMatch.Statement (.stepI j) := by
  intro _
  refine ⟨microTable[5], List.getElem_mem _, ?_, ?_⟩ <;> revert j <;> decide

theorem RowMatch.feed : RowMatch.Statement .feed := by
  intro _
  exact ⟨microTable[6], List.getElem_mem _, rfl, rfl⟩

theorem RowMatch.final : RowMatch.Statement .final := by
  intro _
  exact ⟨microTable[7], List.getElem_mem _, rfl, rfl⟩

end Sys2Proof.Laws
end

