-- ==== Sys2Proof/Laws/Step.lean ====
section
/-! SUPPORT. What one step can do, said once: the micro-op of each phase, the outcome of each micro-op, and the turns of the
interleaving. -/

namespace Sys2Proof.Machine

/-! ### The micro-op of a phase -/

/-- The STEP micro-op of a step index, R86. -/
def stepOpAt (i : BitVec 6) : Instr :=
  match (i.extractLsb' 4 2).toNat with
  | 0 => .stepF (i.extractLsb' 0 4)
  | 1 => .stepG (i.extractLsb' 0 4)
  | 2 => .stepH (i.extractLsb' 0 4)
  | _ => .stepI (i.extractLsb' 0 4)

/-- The micro-op the sequencer's position selects, R86 and R87. -/
theorem decodeMicro_microWord (s : State) :
    decodeMicro s.microWord =
      match s.phase with
      | .idle | .done | .error => none
      | .padding => some .pad
      | .iterLoad => some .load
      | .iterRound => some (stepOpAt s.step)
      | .iterFeed => some .feed
      | .finalizing => some .final := by
  have all : ∀ st : BitVec 6,
      decodeMicro (Phase.code .idle ++ st) = none ∧ decodeMicro (Phase.code .done ++ st) = none ∧
      decodeMicro (Phase.code .error ++ st) = none ∧ decodeMicro (Phase.code .padding ++ st) = some .pad ∧
      decodeMicro (Phase.code .iterLoad ++ st) = some .load ∧
      decodeMicro (Phase.code .iterRound ++ st) = some (stepOpAt st) ∧
      decodeMicro (Phase.code .iterFeed ++ st) = some .feed ∧
      decodeMicro (Phase.code .finalizing ++ st) = some .final := by decide
  obtain ⟨h0, h6, h7, h1, h2, h3, h4, h5⟩ := all s.step
  unfold State.microWord
  cases s.phase <;> assumption

/-- A STEP micro-op is the common step with its round's mixing function, R126 to R130. -/
theorem exec_stepOpAt (i : BitVec 6) (s : State) :
    exec (stepOpAt i) s = .next (s.compressStep (mixOfRound (i.extractLsb' 4 2)) i) := by
  obtain ⟨n, hn, rfl⟩ : ∃ n, n < 64 ∧ i = BitVec.ofNat 6 n := ⟨i.toNat, i.isLt, by simp⟩
  interval_cases n <;> rfl

/-! ### LOAD's outcome -/

theorem exec_load_of_admits {s : State} (hb : s.blk.toNat < blockCount s.len.toNat)
    (hm : s.src.toNat + s.len.toNat ≤ 2 ^ s.addrW) : exec .load s = .next s.loaded := by
  show execLoad s = _
  unfold execLoad
  rw [if_pos hb, if_pos (blockInMem_of_admits s hm)]
  rfl

theorem exec_load_next {s t : State} (h : exec .load s = .next t) : t = s.loaded := by
  have h : execLoad s = .next t := h
  unfold execLoad at h
  split at h
  · split at h
    · exact (Host.Outcome.next.inj h).symm
    · cases h
  · cases h

/-! ### The turns -/

theorem fetch_core {s : State} (h : s.coreIsNext) : fetch s = coreTurn s.takeTurn := by
  unfold fetch
  rcases h with h | h <;> rw [h]

theorem fetch_bus {s : State} {req : BusReq} (h : s.hostIsNext req) : fetch s = busTurn req s.takeTurn := by
  unfold fetch
  rw [h]

theorem fetch_rst {s : State} (h : s.moves.head? = some .rst) : fetch s = .settled s.takeTurn.resetCore := by
  unfold fetch
  rw [h]

theorem fetch_memWrite {s : State} {a : Nat} {b : Byte} (h : s.moves.head? = some (.memWrite a b)) :
    fetch s = memWriteTurn a b s.takeTurn := by
  unfold fetch
  rw [h]

@[simp] theorem takeTurn_microWord (s : State) : s.takeTurn.microWord = s.microWord := rfl

/-- A core's turn with a micro-op runs it. -/
theorem step_core {s : State} {i : Instr} (h : s.coreIsNext) (hi : decodeMicro s.microWord = some i) :
    step s = exec i s.takeTurn := by
  simp only [step, fetch_core h, coreTurn, takeTurn_microWord, hi]

/-- A core's turn without a micro-op changes nothing but the turn. -/
theorem step_core_idle {s : State} (h : s.coreIsNext) (hi : decodeMicro s.microWord = none) :
    step s = .next s.takeTurn := by
  simp only [step, fetch_core h, coreTurn, takeTurn_microWord, hi]

/-- A transaction's turn runs the operation of its descriptor. -/
theorem step_bus {s : State} {req : BusReq} {i : Instr} (h : s.hostIsNext req) (hw : req.width = 32)
    (hi : decodeDesc req.desc = some i) : step s = exec i s.takeTurn := by
  simp only [step, fetch_bus h, busTurn, if_pos hw, hi]

/-- The reset turn. -/
theorem step_rst {s : State} (h : s.moves.head? = some .rst) : step s = .next s.takeTurn.resetCore := by
  simp only [step, fetch_rst h]

/-- The host changes no message byte while BUSY, R72. -/
abbrev State.writeAllowed (s : State) (a : Nat) (b : Byte) : Prop :=
  (s.busy && s.isMessageByte a && s.memRead a != b) = false

/-- Everything a step that goes on can be. -/
theorem step_cases {s t : State} (h : step s = .next t) :
    (∃ i, s.coreIsNext ∧ decodeMicro s.microWord = some i ∧ exec i s.takeTurn = .next t) ∨
    (s.coreIsNext ∧ decodeMicro s.microWord = none ∧ t = s.takeTurn) ∨
    (∃ req i, s.hostIsNext req ∧ req.width = 32 ∧ decodeDesc req.desc = some i ∧ exec i s.takeTurn = .next t) ∨
    (s.moves.head? = some .rst ∧ t = s.takeTurn.resetCore) ∨
    (∃ a b, s.moves.head? = some (.memWrite a b) ∧ a < 2 ^ s.addrW ∧ s.writeAllowed a b ∧
      t = s.takeTurn.setInMem (Memory.write s.inMem a b)) := by
  have core : s.coreIsNext → (∃ i, s.coreIsNext ∧ decodeMicro s.microWord = some i ∧ exec i s.takeTurn = .next t) ∨
      (s.coreIsNext ∧ decodeMicro s.microWord = none ∧ t = s.takeTurn) := by
    intro hc
    cases hd : decodeMicro s.microWord with
    | none => rw [step_core_idle hc hd] at h; exact .inr ⟨hc, rfl, (Host.Outcome.next.inj h).symm⟩
    | some i => rw [step_core hc hd] at h; exact .inl ⟨i, hc, rfl, h⟩
  cases hm : s.moves.head? with
  | none => exact (core (.inl hm)).elim .inl (.inr ∘ .inl)
  | some m =>
    cases m with
    | core => exact (core (.inr hm)).elim .inl (.inr ∘ .inl)
    | bus req =>
      by_cases hw : req.width = 32
      · cases hd : decodeDesc req.desc with
        | none => simp [step, fetch_bus hm, busTurn, hw, hd] at h
        | some i => rw [step_bus hm hw hd] at h; exact .inr (.inr (.inl ⟨req, i, hm, hw, hd, h⟩))
      · simp [step, fetch_bus hm, busTurn, hw] at h
    | rst => rw [step_rst hm] at h; exact .inr (.inr (.inr (.inl ⟨rfl, (Host.Outcome.next.inj h).symm⟩)))
    | memWrite a b =>
      refine .inr (.inr (.inr (.inr ⟨a, b, rfl, ?_⟩)))
      simp only [step, fetch_memWrite hm, memWriteTurn] at h
      by_cases ha : s.takeTurn.inMemHas a = true
      · rw [if_pos ha] at h
        cases hb : (s.takeTurn.busy && s.takeTurn.isMessageByte a && s.takeTurn.memRead a != b) with
        | true => simp [hb] at h
        | false =>
          simp only [hb] at h
          exact ⟨of_decide_eq_true ha, hb, (Host.Outcome.next.inj h).symm⟩
      · rw [if_neg ha] at h
        cases h

/-! ### Which operation a turn runs -/

/-- The bus spells no micro-op, R82. -/
theorem isMicroOp_of_decodeDesc {d : Desc} {i : Instr} (h : decodeDesc d = some i) : isMicroOp i = false := by
  rw [decodeDesc_eq] at h
  unfold opOfHeader at h
  split at h <;> (try split at h) <;> (try split at h) <;> cases h <;> rfl

/-- The core's turn runs nothing but micro-ops, R86. -/
theorem isMicroOp_of_decodeMicro {s : State} {i : Instr} (h : decodeMicro s.microWord = some i) : isMicroOp i = true := by
  rw [decodeMicro_microWord] at h
  cases hp : s.phase <;> simp only [hp] at h <;> cases h <;> try rfl
  unfold stepOpAt
  split <;> rfl

theorem runs_core {s : State} {i : Instr} (h : s.coreIsNext) (hi : decodeMicro s.microWord = some i) : s.runs i := by
  simp only [State.runs, fetch_core h, coreTurn, takeTurn_microWord, hi]

theorem runs_bus {s : State} {req : BusReq} {i : Instr} (h : s.hostIsNext req) (hw : req.width = 32)
    (hi : decodeDesc req.desc = some i) : s.runs i := by
  simp only [State.runs, fetch_bus h, busTurn, if_pos hw, hi]

/-- A step that runs an operation is its meaning. -/
theorem step_of_runs {s : State} {i : Instr} (h : s.runs i) : step s = exec i s.takeTurn := by
  have h : fetch s = .run i s.takeTurn := h
  simp only [step, h]

end Sys2Proof.Machine
end

