-- ==== Sys2Proof/Tests/Slice0.lean ====
section
/-! SUPPORT. The model's own tests, with values taken from the spec (95_test_vectors.md and the rules named), and a witness for the
hypotheses of every statement. -/

namespace Sys2Proof.Machine.Tests

/-! ### Helpers -/

/-- A field of the state an outcome goes on to. -/
def after {α : Type} (o : Host.Outcome State Fault Refusal) (f : State → α) : Option α :=
  match o with
  | .next t => some (f t)
  | .fault _ => none
  | .refused _ => none

/-- The reason an outcome stops. -/
def stopOf (o : Host.Outcome State Fault Refusal) : Option (Fault ⊕ Refusal) :=
  match o with
  | .next _ => none
  | .fault f => some (.inl f)
  | .refused r => some (.inr r)

/-- The state after reset with the given phase and step. -/
def at_ (p : Phase) (st : BitVec 6) : State := { State.reset with phase := p, step := st }

/-- The state after reset with the host's transaction next. -/
def hostNext (d : Desc) : State := { State.reset with moves := [.bus ⟨32, d⟩] }

/-- A core in PADDING right after an accepted START. -/
def padding (w : Nat) (src len : DWord) (irqEn : Bool) : State :=
  { State.reset with addrW := w, phase := .padding, src := src, len := len, irqEn := irqEn, h := iv }

/-- The message "abc" at 0x1000 (L3.1), with the position the sequencer has at the given phase. -/
def abc (p : Phase) : State :=
  { State.reset with
    phase := p, src := 0x1000, len := 3, nblk := 1, h := iv
    inMem := [(0x1000, 0x61), (0x1001, 0x62), (0x1002, 0x63)] }

/-- The core in DONE after "abc" (L2.10). -/
def abcDone : State :=
  { abc .done with
    blk := 1
    digest := #v[0x98500190, 0xB04FD23C, 0x7D3F96D6, 0x727FE128]
    h := #v[0x98500190, 0xB04FD23C, 0x7D3F96D6, 0x727FE128] }

/-- The working registers and message words of a step (L2.5). -/
def stepState (p : Phase) (r : Vector Word 4) (m : Vector Word 16) : State := { State.reset with phase := p, r := r, m := m }

def zeros4 : Vector Word 4 := #v[0, 0, 0, 0]
def ones4 : Vector Word 4 := Vector.replicate 4 0xFFFFFFFF
def zeros16 : Vector Word 16 := Vector.replicate 16 0
def ones16 : Vector Word 16 := Vector.replicate 16 0xFFFFFFFF
def count16 : Vector Word 16 := Vector.ofFn fun j => BitVec.ofNat 32 j.val

/-! ### WellFormed: each check refuses an ill-formed term -/

theorem test_wf_clear_needs_bit1 : (Instr.wrCtrlClear 0x00000001).wellFormed = false := by decide
theorem test_wf_start_needs_bit0 : (Instr.wrCtrlStart 0x00000004).wellFormed = false := by decide
theorem test_wf_start_refuses_bit1 : (Instr.wrCtrlStart 0x00000003).wellFormed = false := by decide
theorem test_wf_cfg_refuses_bit0 : (Instr.wrCtrlCfg 0x00000001).wellFormed = false := by decide
theorem test_wf_cfg_refuses_bit1 : (Instr.wrCtrlCfg 0x00000002).wellFormed = false := by decide
theorem test_wf_admits : (Instr.wrCtrlClear 0x00000007).wellFormed = true ∧ (Instr.wrCtrlStart 0x00000005).wellFormed = true ∧
    (Instr.wrCtrlCfg 0x00000004).wellFormed = true := by decide

/-! ### Decode: every operation from a word written out from R81, R82 and R86 (WE Z ADDR DATA; PHASE STEP) -/

theorem test_decode_rdCtrl : decodeDesc 0b0_0_000000_00000000000000000000000000000000 = some .rdCtrl := by decide
theorem test_decode_rdStatus : decodeDesc 0b0_0_000100_00000000000000000000000000000000 = some .rdStatus := by decide
theorem test_decode_rdSrc : decodeDesc 0b0_0_001100_00000000000000000000000000000000 = some (.rdSrc true) := by decide
theorem test_decode_rdLen : decodeDesc 0b0_0_010000_00000000000000000000000000000000 = some (.rdLen false) := by decide
theorem test_decode_rdNblk : decodeDesc 0b0_0_011100_00000000000000000000000000000000 = some (.rdNblk true) := by decide
theorem test_decode_rdBlk : decodeDesc 0b0_0_100000_00000000000000000000000000000000 = some (.rdBlk false) := by decide
theorem test_decode_rdStep : decodeDesc 0b0_0_101000_00000000000000000000000000000000 = some .rdStep := by decide
theorem test_decode_rdRsvd : decodeDesc 0b0_0_101100_00000000000000000000000000000000 = some .rdRsvd := by decide
theorem test_decode_rdDigest : decodeDesc 0b0_0_111000_00000000000000000000000000000000 = some (.rdDigest 2) := by decide
theorem test_decode_wrCtrlClear : decodeDesc 0b1_0_000000_00000000000000000000000000000111 = some (.wrCtrlClear 7) := by decide
theorem test_decode_wrCtrlStart : decodeDesc 0b1_0_000000_00000000000000000000000000000101 = some (.wrCtrlStart 5) := by decide
theorem test_decode_wrCtrlCfg : decodeDesc 0b1_0_000000_00000000000000000000000000000100 = some (.wrCtrlCfg 4) := by decide
theorem test_decode_wrStatus : decodeDesc 0b1_0_000100_11111111111111111111111111111111 = some (.wrStatus 0xFFFFFFFF) := by decide
theorem test_decode_wrSrc : decodeDesc 0b1_0_001000_00000000000000000001000000000000 = some (.wrSrc false 0x1000) := by decide
theorem test_decode_wrLen : decodeDesc 0b1_0_010100_00100000000000000000000000000000 = some (.wrLen true 0x20000000) := by decide
theorem test_decode_wrNblk : decodeDesc 0b1_0_011000_00000000000000000000000000000101 = some (.wrNblk false 5) := by decide
theorem test_decode_wrBlk : decodeDesc 0b1_0_100100_00000000000000000000000000000001 = some (.wrBlk true 1) := by decide
theorem test_decode_wrStep : decodeDesc 0b1_0_101000_00000000000000000000000000000001 = some (.wrStep 1) := by decide
theorem test_decode_wrRsvd : decodeDesc 0b1_0_101100_00000000000000000000000000000001 = some (.wrRsvd 1) := by decide
theorem test_decode_wrDigest : decodeDesc 0b1_0_110000_00000000000000000000000000000001 = some (.wrDigest 0 1) := by decide
theorem test_decode_pad : decodeMicro 0b001_000000 = some .pad := by decide
theorem test_decode_load : decodeMicro 0b010_000000 = some .load := by decide
theorem test_decode_stepF : decodeMicro 0b011_001111 = some (.stepF 15) := by decide
theorem test_decode_stepG : decodeMicro 0b011_010001 = some (.stepG 1) := by decide
theorem test_decode_stepH : decodeMicro 0b011_101000 = some (.stepH 8) := by decide
theorem test_decode_stepI : decodeMicro 0b011_110100 = some (.stepI 4) := by decide
theorem test_decode_feed : decodeMicro 0b100_000000 = some .feed := by decide
theorem test_decode_final : decodeMicro 0b101_000000 = some .final := by decide

/-- R83: Z = 1, and each of ADDR's low bits. -/
theorem test_decode_illegal : decodeDesc 0x4400000000 = none ∧ decodeDesc 0x0500000000 = none ∧ decodeDesc 0x8200000001 = none ∧
    decodeDesc 0xFFFFFFFFFF = none := by decide

/-- R87: IDLE, DONE and ERROR have no micro-op. -/
theorem test_decode_quiescent : decodeMicro 0b000_000000 = none ∧ decodeMicro 0b110_000000 = none ∧
    decodeMicro 0b111_111111 = none := by decide

/-- The host's numbering of the opcode table (log 19). -/
theorem test_decodeTableWord : decodeTableWord 40 0x9000000063 = some (.wrLen false 0x63) ∧
    decodeTableWord 16 0x0D0 = some (.stepG 0) ∧ decodeTableWord 16 0x240 = none := by decide

/-! ### Notation: the descriptors of L3.1 and the transform sequence -/

theorem test_notation_lines : [wrLine .srcLo 0x1000, wrLine .srcHi 0, wrLine .lenLo 3, wrLine .lenHi 0, rdLine .status,
      rdLine .digest0, rdLine .digest1, rdLine .digest2, rdLine .digest3] =
    [0x8800001000, 0x8C00000000, 0x9000000003, 0x9400000000, 0x0400000000, 0x3000000000, 0x3400000000, 0x3800000000,
      0x3C00000000] ∧
    pseudoStartIrq = [0x8000000005] ∧ pseudoClear = [0x8000000002] := by decide

theorem test_notation_transform : transformLines 0x1000 3 1 =
    [0x8800001000, 0x8C00000000, 0x9000000003, 0x9400000000, 0x8000000001, 0x0400000000, 0x3000000000, 0x3400000000,
      0x3800000000, 0x3C00000000] := by decide

/-! ### Host reads (L2.10, L3) -/

theorem test_rdCtrl_irq_enabled : after (exec .rdCtrl { State.reset with irqEn := true }) (·.busRdata) = some (some 0x00000004) := by
  decide
theorem test_rdStatus_reset : after (step (hostNext 0x0400000000)) (·.busRdata) = some (some 0x00000000) := by decide
theorem test_rdStatus_done_irq : after (exec .rdStatus { abcDone with irqEn := true }) (·.busRdata) = some (some 0x00000116) := by
  decide
theorem test_rdSrc_halves : after (exec (.rdSrc true) { State.reset with src := 0xFFFFFFFF00000020 }) (·.busRdata) =
      some (some 0xFFFFFFFF) ∧
    after (exec (.rdSrc false) { State.reset with src := 0xFFFFFFFF00000020 }) (·.busRdata) = some (some 0x00000020) := by decide
theorem test_rdLen_high : after (exec (.rdLen true) { State.reset with len := 0x2000000000000000 }) (·.busRdata) =
    some (some 0x20000000) := by decide
theorem test_rdNblk : after (exec (.rdNblk false) abcDone) (·.busRdata) = some (some 1) := by decide
theorem test_rdBlk : after (exec (.rdBlk false) abcDone) (·.busRdata) = some (some 1) := by decide
theorem test_rdStep : after (exec .rdStep (at_ .iterRound 18)) (·.busRdata) = some (some 18) := by decide
theorem test_rdRsvd : after (exec .rdRsvd abcDone) (·.busRdata) = some (some 0) := by decide
theorem test_rdDigest0 : after (exec (.rdDigest 0) abcDone) (·.busRdata) = some (some 0x98500190) := by decide
theorem test_rdDigest3 : after (exec (.rdDigest 3) abcDone) (·.busRdata) = some (some 0x727FE128) := by decide

/-! ### Host writes (L2.10) -/

theorem test_start_irq_from_reset : after (step (hostNext 0x8000000005)) (fun t => (t.irqEn, t.phase, t.statusWord, t.h)) =
    some (true, .padding, 0x00000009, #v[0x67452301, 0xEFCDAB89, 0x98BADCFE, 0x10325476]) := by decide
theorem test_start_while_busy : after (exec (.wrCtrlStart 1) (at_ .iterRound 18)) (·.statusWord) = some 0x0000008B := by decide
theorem test_cfg_idle : after (step (hostNext 0x8000000004)) (fun t => (t.irqEn, t.phase, t.ctrlWord)) =
    some (true, .idle, 0x00000004) := by decide
theorem test_clear_wins : after (exec (.wrCtrlClear 3) (at_ .iterRound 18)) (fun t => (t.statusWord, t.step)) =
    some (0x00000000, 0) := by decide
theorem test_clear_drops_irqEn : after (exec (.wrCtrlClear 7) { abcDone with irqEn := true }) (fun t => (t.irqEn, t.digest, t.src)) =
    some (false, #v[0, 0, 0, 0], 0) := by decide
theorem test_wrLen_while_busy : after (exec (.wrLen false 0x63) (padding 64 0 14 false)) (fun t => (t.len, t.errBusy)) =
    some (14, true) := by decide
theorem test_wrLen_high : after (step (hostNext 0x9420000000)) (·.len) = some 0x2000000000000000 := by decide
theorem test_wrSrc_low : after (step (hostNext 0x8800001000)) (·.src) = some 0x1000 := by decide
theorem test_wrSrc_warl : after (exec (.wrSrc false 0x0012FFF0) { State.reset with addrW := 16 }) (·.src) = some 0xFFF0 ∧
    after (exec (.wrSrc true 1) { State.reset with addrW := 16, src := 0xFFF0 }) (·.src) = some 0xFFF0 := by decide
theorem test_wrStatus_ignored : after (exec (.wrStatus 0xFFFFFFFF) (at_ .padding 0)) id = some (at_ .padding 0) := by decide
theorem test_wrNblk_ignored : after (exec (.wrNblk false 5) abcDone) id = some abcDone := by decide
theorem test_wrBlk_ignored : after (exec (.wrBlk false 5) abcDone) id = some abcDone := by decide
theorem test_wrStep_ignored : after (exec (.wrStep 5) (at_ .iterRound 1)) id = some (at_ .iterRound 1) := by decide
theorem test_wrRsvd_ignored : after (exec (.wrRsvd 5) abcDone) id = some abcDone := by decide
theorem test_wrDigest_ignored : after (exec (.wrDigest 0 1) abcDone) id = some abcDone := by decide

/-- The illegal accesses of L2.10 are refused. -/
theorem test_bus_refusals : stopOf (step (hostNext 0x4400000000)) = some (.inr .busError) ∧
    stopOf (step (hostNext 0x0500000000)) = some (.inr .busError) ∧
    stopOf (step { State.reset with moves := [.bus ⟨16, 0x0400000000⟩] }) = some (.inr .busError) := by decide

/-! ### Padder (L2.1, L2.11) -/

/-- STATUS after PAD, and `irq`, for the five rows of L2.11 (the fourth is accepted, to ITER_LOAD). -/
theorem test_pad_errors :
    after (exec .pad (padding 64 0 0x2000000000000000 false)) (fun t => (t.statusWord, t.irq)) = some (0x00000027, false) ∧
    after (exec .pad (padding 64 0xFFFFFFFFFFFFFFF0 0x20 true)) (fun t => (t.statusWord, t.irq)) = some (0x00000147, true) ∧
    after (exec .pad (padding 64 0xFFFFFFFFFFFFFFFF 0x2000000000000000 false)) (·.statusWord) = some 0x00000067 ∧
    after (exec .pad (padding 16 0xFFF0 0x10 false)) (·.statusWord) = some 0x0000000A ∧
    after (exec .pad (padding 16 0xFFF0 0x11 false)) (·.statusWord) = some 0x00000047 := by decide

/-- NBLK for L of L2.1, and the largest length. -/
theorem test_pad_nblk :
    after (exec .pad (padding 64 0 55 false)) (·.nblk) = some 1 ∧ after (exec .pad (padding 64 0 56 false)) (·.nblk) = some 2 ∧
    after (exec .pad (padding 64 0 120 false)) (·.nblk) = some 3 ∧
    after (exec .pad (padding 64 0 0x1FFFFFFFFFFFFFFF false)) (·.nblk) = some 0x0080000000000001 := by decide

/-! ### Block iterator (L2.2) -/

theorem test_load_abc : after (exec .load (abc .iterLoad)) (fun t => (t.m, t.r, t.step, t.phase)) =
    some (#v[0x80636261, 0, 0, 0, 0, 0, 0, 0, 0, 0, 0, 0, 0, 0, 0x00000018, 0], iv, 0, .iterRound) := by decide

/-- Block 1 of a message of 64 bytes: 0x80 and the trailer 8L = 512. -/
theorem test_load_second_block : after (exec .load { padding 64 0 64 false with phase := .iterLoad, nblk := 2, blk := 1 }) (·.m) =
    some #v[0x00000080, 0, 0, 0, 0, 0, 0, 0, 0, 0, 0, 0, 0, 0, 0x00000200, 0] := by decide

/-! ### Compression round (L2.3, L2.4, L2.5) -/

theorem test_mixing : mixF 0x12345678 0x9ABCDEF0 0x0F0F0F0F = 0x1F3F5F77 ∧ mixG 0x12345678 0x9ABCDEF0 0x0F0F0F0F = 0x92B4D6F8 ∧
    mixH 0x12345678 0x9ABCDEF0 0x0F0F0F0F = 0x87878787 ∧ mixI 0x12345678 0x9ABCDEF0 0x0F0F0F0F = 0x68482808 := by decide

theorem test_rotation : rotl32 0x80000000 1 = 0x00000001 ∧ rotl32 0x00000001 31 = 0x80000000 ∧
    rotl32 0x12345678 7 = 0x1A2B3C09 ∧ rotl32 0x80000001 22 = 0x00600000 := by decide

theorem test_stepF_ones : after (exec (.stepF 0) (stepState .iterRound ones4 ones16)) (fun t => (t.r, t.step)) =
    some (#v[0xFFFFFFFF, 0xB5523AEA, 0xFFFFFFFF, 0xFFFFFFFF], 1) := by decide
theorem test_stepF_iv : after (exec (.stepF 5) (stepState .iterRound iv count16)) (·.r) =
    some #v[0x10325476, 0x6C309001, 0xEFCDAB89, 0x98BADCFE] := by decide
theorem test_stepG_ones : after (exec (.stepG 15) (stepState .iterRound ones4 ones16)) (fun t => (t.r, t.step)) =
    some (#v[0xFFFFFFFF, 0xC878D2A3, 0xFFFFFFFF, 0xFFFFFFFF], 32) := by decide
theorem test_stepG_iv : after (exec (.stepG 5) (stepState .iterRound iv count16)) (·.r) =
    some #v[0x10325476, 0x134D796D, 0xEFCDAB89, 0x98BADCFE] := by decide
theorem test_stepH_zeros : after (exec (.stepH 0) (stepState .iterRound zeros4 zeros16)) (fun t => (t.r, t.step)) =
    some (#v[0, 0xFFA3942F, 0, 0], 33) := by decide
theorem test_stepH_ones : after (exec (.stepH 15) (stepState .iterRound ones4 ones16)) (·.r) =
    some #v[0xFFFFFFFF, 0x3162562A, 0xFFFFFFFF, 0xFFFFFFFF] := by decide
theorem test_stepI_zeros : after (exec (.stepI 0) (stepState .iterRound zeros4 zeros16)) (fun t => (t.r, t.phase)) =
    some (#v[0, 0x0A4890FD, 0, 0], .iterRound) := by decide
theorem test_stepI_last : after (exec (.stepI 15) (stepState .iterRound ones4 ones16)) (fun t => (t.r, t.step, t.phase)) =
    some (#v[0xFFFFFFFF, 0x71FD70D9, 0xFFFFFFFF, 0xFFFFFFFF], 0, .iterFeed) := by decide

/-! ### FEED and FINAL (L2.7, L2.8) -/

theorem test_feed_abc : after (exec .feed { abc .iterFeed with r := #v[0x310ADE8F, 0xC08226B3, 0xE484B9D8, 0x624D8CB2] })
      (fun t => (t.h, t.blk, t.phase)) =
    some (#v[0x98500190, 0xB04FD23C, 0x7D3F96D6, 0x727FE128], 1, .finalizing) := by decide

theorem test_feed_wraps : after (exec .feed { at_ .iterFeed 0 with nblk := 2, h := #v[0xFFFFFFFF, 0x80000000, 0x00000001, 0], r :=
      #v[0x00000001, 0x80000000, 0xFFFFFFFF, 0] }) (fun t => (t.h, t.blk, t.phase)) =
    some (#v[0, 0, 0, 0], 1, .iterLoad) := by decide

theorem test_final : after (exec .final { abc .finalizing with blk := 1, irqEn := true }) (fun t => (t.digest, t.statusWord)) =
    some (#v[0x67452301, 0xEFCDAB89, 0x98BADCFE, 0x10325476], 0x00000116) := by decide

/-- L2.8's digest bytes. -/
theorem test_digest_bytes : digestBytes #v[0x67452301, 0xEFCDAB89, 0x98BADCFE, 0x10325476] =
    [0x01, 0x23, 0x45, 0x67, 0x89, 0xAB, 0xCD, 0xEF, 0xFE, 0xDC, 0xBA, 0x98, 0x76, 0x54, 0x32, 0x10] := by decide

/-- L2.6: the working registers of "abc" after steps 0 to 3 of block 0. -/
theorem test_first_steps_abc : roundsTo (messageBlock (paddedMessage [0x61, 0x62, 0x63]) 0) iv 4 =
    #v[0xD6D117B4, 0x7AD956F2, 0x2F6FBD72, 0x344A8432] := by decide

/-- The source's known answer for "abc" (L1.2). -/
theorem test_transform_abc : transform [0x61, 0x62, 0x63] = #v[0x98500190, 0xB04FD23C, 0x7D3F96D6, 0x727FE128] := by
  decide +kernel

/-- L2.8 and L2.9: a message of two blocks, which tells feed-forward by block from the other readings of 90_conflicts.md C2. -/
theorem test_transform_two_blocks : transform (List.replicate 56 0x61) =
    #v[0xC78A0C3B, 0xB028F803, 0x70196C4C, 0x1872D106] := by
  decide +kernel

/-! ### The turns -/

/-- A quiescent core's turn is no step of a computation (R87). -/
theorem test_quiescent_turn : after (step State.reset) id = some State.reset := by decide

/-- The micro-op is the one {PHASE, STEP} selects. -/
theorem test_core_turn : after (step (padding 64 0 3 false)) (fun t => (t.phase, t.nblk)) = some (.iterLoad, 1) := by decide

/-- A word of each encoding placed at the next turn is run (log 17). -/
theorem test_withFetchWord : after (step (State.reset.withFetchWord 40 0x8800001000)) (·.src) = some 0x1000 ∧
    after (step (State.reset.withFetchWord 16 0x0DF)) (·.step) = some 32 := by decide

/-- The host's write of a byte, and its limits (R72; log 9). -/
theorem test_memWrite : after (step { State.reset with moves := [.memWrite 5 0x61] }) (·.memRead 5) = some 0x61 ∧
    stopOf (step { State.reset with addrW := 2, moves := [.memWrite 5 0x61] }) = some (.inl .inMemAddress) ∧
    stopOf (step { abc .iterLoad with moves := [.memWrite 0x1002 0] }) = some (.inr .messageChangedWhileBusy) ∧
    after (step { abc .iterLoad with moves := [.memWrite 0x1003 7] }) (·.memRead 0x1003) = some 7 := by decide

/-- Writing what an unlisted address reads as removes the entry. -/
theorem test_memory_canonical : Memory.write [(4, 0x61), (6, 0x62)] 4 0 = [(6, 0x62)] ∧
    Memory.write [(4, 0x61), (6, 0x62)] 5 0x63 = [(4, 0x61), (5, 0x63), (6, 0x62)] := by decide

/-! ### Witnesses: states and operands that meet each statement's hypotheses -/

/-- A state with the given turn next. -/
def withMove (s : State) (m : Move) : State := { s with moves := [m] }

/-- A state with a 32-bit transaction next. -/
def withBus (s : State) (d : Desc) : State := withMove s (.bus ⟨32, d⟩)

/-- The message "abc" set up and its START next (L3.1). -/
def abcStart : State :=
  { State.reset with
    src := 0x1000
    len := 3
    inMem := [(0x1000, 0x61), (0x1001, 0x62), (0x1002, 0x63)]
    moves := [.bus ⟨32, 0x8000000005⟩] }

/-- A computation PAD rejects: LEN = 2^61 (L3.3). -/
def tooLong : State := padding 64 0 0x2000000000000000 true

/-- The ERROR that comes of it. -/
def errored : State := { tooLong with phase := .error, errTooLarge := true }

/-- "abc" before its FINAL. -/
def abcFinal : State := { abc .finalizing with blk := 1, h := transform [0x61, 0x62, 0x63] }

/-- "abc" in DONE with its answer. -/
def abcAnswered : State := { abcDone with irqEn := true }

theorem reset_inv : State.reset.Inv :=
  ⟨by decide, by decide, by decide, by decide, fun _ => rfl, ⟨rfl, rfl, ⟨rfl, rfl⟩, rfl⟩⟩

theorem abcStart_inv : abcStart.Inv :=
  ⟨by decide, by decide, by decide, by decide, fun _ => rfl, ⟨rfl, rfl, ⟨rfl, rfl⟩, rfl⟩⟩

theorem tooLong_inv : tooLong.Inv :=
  ⟨by decide, by decide, by decide, by decide, fun _ => rfl, ⟨rfl, rfl, rfl, rfl, rfl⟩⟩

theorem errored_inv : errored.Inv :=
  ⟨by decide, by decide, by decide, by decide, fun _ => rfl, ⟨rfl, rfl, rfl, .inl rfl⟩⟩

theorem padding_inv : (padding 16 0xFFF0 0x10 true).Inv :=
  ⟨by decide, by decide, by decide, by decide, fun _ => rfl, ⟨rfl, rfl, rfl, rfl, rfl⟩⟩

theorem abc_iterating (p : Phase) : (abc p).iterating := by
  have h : (abc .idle).iterating := by decide
  exact h

theorem abcLoad_inv : (abc .iterLoad).Inv :=
  ⟨by decide, by decide, by decide, by decide, fun _ => rfl, ⟨abc_iterating _, by decide⟩⟩

/-- The last step of "abc". -/
def abcLastStep : State := { abc .iterRound with step := 63 }

theorem abcLastStep_inv : abcLastStep.Inv :=
  ⟨by decide, by decide, by decide, by decide, fun h => absurd rfl h, ⟨abc_iterating .iterRound, by decide⟩⟩

theorem abcFeed_inv : (abc .iterFeed).Inv :=
  ⟨by decide, by decide, by decide, by decide, fun _ => rfl, ⟨abc_iterating _, by decide⟩⟩

theorem abcFinal_inv : abcFinal.Inv :=
  ⟨by decide, by decide, by decide, by decide, fun _ => rfl, ⟨abc_iterating .finalizing, rfl⟩⟩

theorem abcAnswered_inv : abcAnswered.Inv :=
  ⟨by decide, by decide, by decide, by decide, fun _ => rfl, ⟨rfl, by decide, by decide, ⟨rfl, rfl⟩⟩⟩

/-- The invariant does not look at the turns. -/
theorem withMove_inv {s : State} (h : s.Inv) (m : Move) : (withMove s m).Inv :=
  ⟨h.addrW_legal, h.inMem_wf, h.inMem_bounded, h.src_bounded, h.step_zero, h.position⟩

theorem witness_DecodeOfEncodeIsTheOperation : (Instr.wrCtrlClear 0x80000002).wellFormed = true ∧
    (Instr.wrCtrlStart 0x80000001).wellFormed = true ∧ (Instr.wrCtrlCfg 0xFFFFFFFC).wellFormed = true ∧
    (Instr.wrDigest 3 0xFFFFFFFF).wellFormed = true ∧ (Instr.stepI 15).wellFormed = true := by decide

theorem witness_LegalDescriptorMatchesExactlyOneRow : BitVec.getLsbD (0xBCFFFFFFFF : Desc) 38 = false ∧
    BitVec.extractLsb' 32 2 (0xBCFFFFFFFF : Desc) = 0 := by decide

theorem witness_MicroOpWordsDecodeByTheirRows : (0x07F : MicroWord) &&& 0x1C0 = 0x040 ∧ (0x0BF : MicroWord) &&& 0x1C0 = 0x080 ∧
    (0x0CF : MicroWord) &&& 0x1F0 = 0x0C0 ∧ (0x0DF : MicroWord) &&& 0x1F0 = 0x0D0 ∧ (0x0EF : MicroWord) &&& 0x1F0 = 0x0E0 ∧
    (0x0FF : MicroWord) &&& 0x1F0 = 0x0F0 ∧ (0x13F : MicroWord) &&& 0x1C0 = 0x100 ∧ (0x17F : MicroWord) &&& 0x1C0 = 0x140 := by
  decide

theorem witness_BusAdmitsExactlyAlignedWordAccesses_refused :
    ((withBus State.reset 0x4400000000).hostIsNext ⟨32, 0x4400000000⟩ ∧ BitVec.getLsbD (0x4400000000 : Desc) 38 = true) ∧
    ((withBus State.reset 0x0300000000).hostIsNext ⟨32, 0x0300000000⟩ ∧ BitVec.extractLsb' 32 2 (0x0300000000 : Desc) ≠ 0) ∧
    (withMove State.reset (.bus ⟨8, 0⟩)).hostIsNext ⟨8, 0⟩ := by decide

theorem witness_BusAdmitsExactlyAlignedWordAccesses : (withBus tooLong 0x8000000007).hostIsNext ⟨32, 0x8000000007⟩ ∧
    BitVec.getLsbD (0x8000000007 : Desc) 38 = false ∧ BitVec.extractLsb' 32 2 (0x8000000007 : Desc) = 0 := by decide

theorem witness_StepRunsTheDecodedOperation_core : (padding 64 0 3 false).coreIsNext ∧
    decode (.micro ((padding 64 0 3 false).phase.code ++ (padding 64 0 3 false).step)) = some .pad ∧
    (withMove (at_ .iterRound 63) .core).coreIsNext ∧
    decode (.micro ((withMove (at_ .iterRound 63) .core).phase.code ++ (withMove (at_ .iterRound 63) .core).step)) =
      some (.stepI 15) := by decide

theorem witness_StepRunsTheDecodedOperation_bus : (withBus tooLong 0x8000000001).hostIsNext ⟨32, 0x8000000001⟩ ∧
    decode (.desc 0x8000000001) = some (.wrCtrlStart 1) := by decide

theorem witness_QuiescentCoreWaits : State.reset.coreIsNext ∧ State.reset.phase = .idle ∧ abcDone.coreIsNext ∧
    abcDone.phase = .done ∧ errored.coreIsNext ∧ errored.phase = .error := by decide

/-- The last byte of InMem, and a message byte while BUSY written with the value it has. -/
theorem witness_HostFillsInMem :
    ((withMove State.reset (.memWrite (2 ^ 64 - 1) 7)).Inv ∧ (withMove State.reset (.memWrite (2 ^ 64 - 1) 7)).busy = false ∧
      2 ^ 64 - 1 < 2 ^ (withMove State.reset (.memWrite (2 ^ 64 - 1) 7)).addrW) ∧
    ((withMove (abc .iterLoad) (.memWrite 0x1002 0x63)).Inv ∧ (withMove (abc .iterLoad) (.memWrite 0x1002 0x63)).busy = true ∧
      (withMove (abc .iterLoad) (.memWrite 0x1002 0x63)).isMessageByte 0x1002 = true ∧
      (withMove (abc .iterLoad) (.memWrite 0x1002 0x63)).memRead 0x1002 = 0x63) :=
  ⟨⟨withMove_inv reset_inv _, by decide⟩, withMove_inv abcLoad_inv _, by decide⟩

theorem witness_ResetTurnAndClearGiveResetValues : (withMove errored .rst).moves.head? = some .rst := by decide

/-- Descriptors of the reads, with DATA that is ignored. -/
theorem witness_ReadDescriptors :
    (0x00FFFFFFFF : Desc) &&& 0xFF00000000 = 0x0000000000 ∧ (0x0400000000 : Desc) &&& 0xFF00000000 = 0x0400000000 ∧
    (0x0C00000000 : Desc) &&& 0xFB00000000 = 0x0800000000 ∧ (0x1400000000 : Desc) &&& 0xFB00000000 = 0x1000000000 ∧
    (0x1C00000000 : Desc) &&& 0xFB00000000 = 0x1800000000 ∧ (0x2400000000 : Desc) &&& 0xFB00000000 = 0x2000000000 ∧
    (0x2800000000 : Desc) &&& 0xFF00000000 = 0x2800000000 ∧ (0x2C00000000 : Desc) &&& 0xFF00000000 = 0x2C00000000 ∧
    (0x3C00000000 : Desc) &&& 0xF300000000 = 0x3000000000 := by decide

/-- Descriptors of the writes. -/
theorem witness_WriteDescriptors :
    (0x80FFFFFFFF : Desc) &&& 0xFF00000002 = 0x8000000002 ∧ (0x80FFFFFFFD : Desc) &&& 0xFF00000003 = 0x8000000001 ∧
    (0x80FFFFFFFC : Desc) &&& 0xFF00000003 = 0x8000000000 ∧ (0x84FFFFFFFF : Desc) &&& 0xFF00000000 = 0x8400000000 ∧
    (0x8CFFFFFFFF : Desc) &&& 0xFB00000000 = 0x8800000000 ∧ (0x94FFFFFFFF : Desc) &&& 0xFB00000000 = 0x9000000000 ∧
    (0x9C00000005 : Desc) &&& 0xFB00000000 = 0x9800000000 ∧ (0xA400000005 : Desc) &&& 0xFB00000000 = 0xA000000000 ∧
    (0xA800000001 : Desc) &&& 0xFF00000000 = 0xA800000000 ∧ (0xAC00000001 : Desc) &&& 0xFF00000000 = 0xAC00000000 ∧
    (0xBC00000001 : Desc) &&& 0xF300000000 = 0xB000000000 := by decide

/-- ADDR_W = 16: the first bit above it in the low half, and the first of the high half. -/
theorem witness_RdSrcReturnsTheHalfOfSrc : (padding 16 0xFFF0 0x10 true).Inv ∧ (padding 16 0xFFF0 0x10 true).addrW ≤ 16 ∧
    (padding 16 0xFFF0 0x10 true).addrW ≤ 32 + 0 := ⟨padding_inv, by decide⟩

theorem witness_ReadsOfLenNblkAndBlkReturnTheirHalves : (tooLong.Inv ∧ tooLong.phase = .padding) ∧
    (errored.Inv ∧ errored.phase = .error) ∧ abcAnswered.Inv ∧ abcAnswered.phase = .done :=
  ⟨⟨tooLong_inv, rfl⟩, ⟨errored_inv, rfl⟩, abcAnswered_inv, rfl⟩

theorem witness_RdStepReturnsStepAndRdRsvdZero : State.reset.Inv ∧ State.reset.phase ≠ .iterRound := ⟨reset_inv, by decide⟩

theorem witness_ReadsChangeNothingAndRepeat : isRead .rdCtrl = true ∧ isRead (.rdDigest 3) = true := by decide

theorem witness_WrCtrlStartBeginsAComputationUnlessBusy :
    (1 ≤ tooLong.phase.code.toNat ∧ tooLong.phase.code.toNat ≤ 5) ∧
    (1 ≤ abcFinal.phase.code.toNat ∧ abcFinal.phase.code.toNat ≤ 5) ∧ State.reset.phase = .idle ∧
    abcDone.phase = .done ∧ errored.phase = .error := by decide

theorem witness_WrCtrlCfgWritesIrqEn : abcDone.phase = .done ∧ errored.phase = .error := by decide

/-- BUSY and not BUSY: the writes of SRC, of LEN and of START. -/
theorem witness_WritesWhileBusyAndNot : tooLong.busy = true ∧ abcFinal.busy = true ∧ State.reset.busy = false ∧
    abcDone.busy = false ∧ errored.busy = false := by decide

theorem witness_PadChecksTheInputAndCountsBlocks : (0x07F : MicroWord).extractLsb' 6 3 = 1 ∧
    2 ^ 61 ≤ tooLong.len.toNat ∧
    2 ^ (padding 16 0xFFF0 0x11 true).addrW < (padding 16 0xFFF0 0x11 true).src.toNat + (padding 16 0xFFF0 0x11 true).len.toNat ∧
    (padding 16 0xFFF0 0x10 true).len.toNat < 2 ^ 61 ∧
    (padding 16 0xFFF0 0x10 true).src.toNat + (padding 16 0xFFF0 0x10 true).len.toNat ≤ 2 ^ (padding 16 0xFFF0 0x10 true).addrW := by
  decide

theorem witness_PaddedLengthIsTheSmallestMultiple : 64 ∣ 128 ∧ 56 + 9 ≤ 128 := by decide

theorem witness_PaddedBytesAreThePaddedMessage : 63 < paddedLength (abc .iterLoad).len.toNat := by decide

theorem witness_LoadLatchesTheBlock : ∃ P : Nat → Byte,
    (0x0BF : MicroWord).extractLsb' 6 3 = 2 ∧
    (abc .iterLoad).blk.toNat < ((abc .iterLoad).len.toNat + 8) / 64 + 1 ∧
    (abc .iterLoad).src.toNat + (abc .iterLoad).len.toNat ≤ 2 ^ (abc .iterLoad).addrW ∧
    (∀ n, n < (abc .iterLoad).len.toNat → P n = (abc .iterLoad).memRead ((abc .iterLoad).src.toNat + n)) ∧
    P (abc .iterLoad).len.toNat = 0x80 ∧
    (∀ n, (abc .iterLoad).len.toNat < n → n < 64 * (((abc .iterLoad).len.toNat + 8) / 64 + 1) - 8 → P n = 0x00) ∧
    ∀ k, k < 8 → (P (64 * (((abc .iterLoad).len.toNat + 8) / 64 + 1) - 8 + k)).toNat =
      8 * (abc .iterLoad).len.toNat / 2 ^ (8 * k) % 2 ^ 8 := by
  refine ⟨(abc .iterLoad).paddedByte, by decide, by decide, by decide, by decide, by decide, fun n h1 h2 => ?_, by decide⟩
  replace h1 : 3 < n := h1
  replace h2 : n < 56 := h2
  interval_cases n <;> rfl

/-- The block after the last, and a last message byte outside InMem. -/
theorem witness_LoadFaultsOutsideItsConditions :
    blockCount { abc .iterLoad with blk := 1 }.len.toNat ≤ { abc .iterLoad with blk := 1 }.blk.toNat ∧
    (padding 16 0xFFF0 0x11 true).blk.toNat < blockCount (padding 16 0xFFF0 0x11 true).len.toNat ∧
    64 * (padding 16 0xFFF0 0x11 true).blk.toNat ≤ 16 ∧ 16 < 64 * (padding 16 0xFFF0 0x11 true).blk.toNat + 64 ∧
    16 < (padding 16 0xFFF0 0x11 true).len.toNat ∧
    2 ^ (padding 16 0xFFF0 0x11 true).addrW ≤ (padding 16 0xFFF0 0x11 true).src.toNat + 16 := by decide

theorem witness_StepWords : (0x0CF : MicroWord).extractLsb' 4 5 = 0b01100 ∧ (0x0DF : MicroWord).extractLsb' 4 5 = 0b01101 ∧
    (0x0EF : MicroWord).extractLsb' 4 5 = 0b01110 ∧ (0x0FF : MicroWord).extractLsb' 4 5 = 0b01111 ∧
    (0x13F : MicroWord).extractLsb' 6 3 = 4 ∧ (0x17F : MicroWord).extractLsb' 6 3 = 5 := by decide

theorem witness_FeedAccumulatesAndEndsTheBlock : (abc .iterFeed).Inv ∧ (abc .iterFeed).phase = .iterFeed := ⟨abcFeed_inv, rfl⟩

theorem witness_MicroOpsFrame : isMicroOp .load = true ∧ exec .load (abc .iterLoad) = .next (abc .iterLoad).loaded ∧
    isMicroOp .feed = true ∧ (∃ t, exec .feed (abc .iterFeed) = .next t) ∧ isMicroOp (.stepI 15) = true ∧
    ∃ t, exec (.stepI 15) abcLastStep = .next t :=
  ⟨rfl, rfl, rfl, ⟨_, rfl⟩, rfl, ⟨_, rfl⟩⟩

theorem witness_CoreAndBusNeverWriteInMem : ∃ t, step (abc .iterLoad) = .next t ∧
    ∀ a b, (abc .iterLoad).moves.head? ≠ some (.memWrite a b) := ⟨_, rfl, by simp [abc, State.reset]⟩

theorem witness_DigestChangesOnlyByFinalClearOrReset :
    (∃ t, step { abc .finalizing with blk := 1 } = .next t ∧ t.digest ≠ { abc .finalizing with blk := 1 }.digest) ∧
    (∃ t, step (withBus abcDone 0x8000000002) = .next t ∧ t.digest ≠ (withBus abcDone 0x8000000002).digest) ∧
    ∃ t, step (withMove abcDone .rst) = .next t ∧ t.digest ≠ (withMove abcDone .rst).digest :=
  ⟨⟨_, rfl, by decide⟩, ⟨_, rfl, by decide⟩, _, rfl, by decide⟩

theorem witness_ErrorFlagsAreSticky :
    (∃ t, step tooLong = .next t ∧ tooLong.errTooLarge = false ∧ t.errTooLarge = true ∧ tooLong.runs .pad ∧
      2 ^ 61 ≤ tooLong.len.toNat) ∧
    (∃ t, step (padding 16 0xFFF0 0x11 true) = .next t ∧ (padding 16 0xFFF0 0x11 true).errRange = false ∧ t.errRange = true) ∧
    (∃ t, step (withBus tooLong 0x8000000001) = .next t ∧ (withBus tooLong 0x8000000001).errBusy = false ∧ t.errBusy = true ∧
      (withBus tooLong 0x8000000001).busy = true ∧ (withBus tooLong 0x8000000001).runs (.wrCtrlStart 1)) ∧
    (∃ t, step (withBus errored 0x8000000001) = .next t ∧ (withBus errored 0x8000000001).errTooLarge = true ∧
      t.errTooLarge = false ∧ (withBus errored 0x8000000001).startsNext) ∧
    ∃ t, step (withMove errored .rst) = .next t ∧ (withMove errored .rst).errTooLarge = true ∧ t.errTooLarge = false ∧
      (withMove errored .rst).resetsNext :=
  ⟨⟨_, rfl, rfl, rfl, rfl, by decide⟩, ⟨_, rfl, by decide⟩, ⟨_, rfl, rfl, rfl, rfl, rfl⟩, ⟨_, rfl, rfl, rfl, rfl, 1, rfl⟩,
    _, rfl, rfl, rfl, .inr rfl⟩

theorem witness_EntryToErrorRecordsTheFlagsAlone : ∃ t, tooLong.Inv ∧ step tooLong = .next t ∧ tooLong.phase ≠ .error ∧
    t.phase = .error := ⟨_, tooLong_inv, rfl, by decide⟩

theorem witness_ErrorIsLeftOnlyByStartClearOrReset :
    (∃ t, step (withBus errored 0x8000000001) = .next t ∧ (withBus errored 0x8000000001).phase = .error ∧ t.phase ≠ .error) ∧
    ∃ t, step (withBus errored 0x8000000002) = .next t ∧ (withBus errored 0x8000000002).phase = .error ∧ t.phase ≠ .error :=
  ⟨⟨_, rfl, by decide⟩, _, rfl, by decide⟩

theorem witness_IrqFollowsEnableAndPhase :
    (∃ t, step (withBus State.reset 0x8000000004) = .next t ∧ t.irqEn ≠ (withBus State.reset 0x8000000004).irqEn ∧
      (withBus State.reset 0x8000000004).runs (.wrCtrlCfg 4)) ∧
    (∃ t, step (withBus abcAnswered 0x8000000001) = .next t ∧ (withBus abcAnswered 0x8000000001).irq = true ∧ t.irq = false) ∧
    (∃ t, step (withBus abcAnswered 0x8000000000) = .next t ∧ (withBus abcAnswered 0x8000000000).irq = true ∧ t.irq = false) ∧
    (∃ t, step (withMove abcAnswered .rst) = .next t ∧ (withMove abcAnswered .rst).irq = true ∧ t.irq = false ∧
      (withMove abcAnswered .rst).resetsNext) ∧
    (∃ t, step tooLong = .next t ∧ tooLong.irq = false ∧ t.irq = true) ∧
    (∃ t, step { abcFinal with irqEn := true } = .next t ∧ { abcFinal with irqEn := true }.irq = false ∧ t.irq = true) ∧
    ∃ t, step (withBus abcDone 0x8000000004) = .next t ∧ (withBus abcDone 0x8000000004).irq = false ∧ t.irq = true :=
  ⟨⟨_, rfl, by decide, rfl⟩, ⟨_, rfl, rfl, rfl⟩, ⟨_, rfl, rfl, rfl⟩, ⟨_, rfl, rfl, rfl, .inr rfl⟩, ⟨_, rfl, rfl, rfl⟩,
    ⟨_, rfl, rfl, rfl⟩, _, rfl, rfl, rfl⟩

theorem witness_BlocksAreVisitedInOrder :
    (∃ t, (abc .iterFeed).Inv ∧ step (abc .iterFeed) = .next t ∧ t.blk ≠ (abc .iterFeed).blk ∧ (abc .iterFeed).runs .feed) ∧
    (∃ t, (withBus abcAnswered 0x8000000001).Inv ∧ step (withBus abcAnswered 0x8000000001) = .next t ∧
      t.blk ≠ (withBus abcAnswered 0x8000000001).blk) ∧
    ∃ t, abcLastStep.Inv ∧ step abcLastStep = .next t ∧ t.phase = .iterFeed ∧ abcLastStep.phase ≠ .iterFeed :=
  ⟨⟨_, abcFeed_inv, rfl, by decide, rfl⟩, ⟨_, withMove_inv abcAnswered_inv _, rfl, by decide⟩,
    _, abcLastStep_inv, rfl, rfl, by decide⟩

theorem witness_MessageIsFixedWhileBusy : ∃ t, (withBus (abc .iterLoad) 0x9000000063).Inv ∧
    step (withBus (abc .iterLoad) 0x9000000063) = .next t ∧ (withBus (abc .iterLoad) 0x9000000063).busy = true ∧
    t.busy = true := ⟨_, withMove_inv abcLoad_inv _, rfl, rfl, rfl⟩

/-- Two states that differ in what a reset leaves unspecified, for each outcome. -/
theorem witness_UnspecifiedRegistersAreNeverRead :
    ({ State.reset with h := iv, r := ones4, m := ones16, freeIdx := 7 }.live = State.reset.live ∧
      ∃ t, step State.reset = .next t) ∧
    ({ at_ .iterLoad 0 with blk := 1, r := ones4, m := ones16 }.live = { at_ .iterLoad 0 with blk := 1 }.live ∧
      step { at_ .iterLoad 0 with blk := 1 } = .fault .blockIndex) ∧
    ({ hostNext 0x4400000000 with h := iv }.live = (hostNext 0x4400000000).live ∧
      step (hostNext 0x4400000000) = .refused .busError) :=
  ⟨⟨rfl, _, rfl⟩, ⟨rfl, rfl⟩, rfl, rfl⟩

theorem witness_EveryStepKeepsTheInvariant : (∃ t, tooLong.Inv ∧ step tooLong = .next t) ∧
    ∃ t, abcLastStep.Inv ∧ step abcLastStep = .next t := ⟨⟨_, tooLong_inv, rfl⟩, _, abcLastStep_inv, rfl⟩

/-- `t.busy` in PADDING, and after it. -/
theorem witness_PositionStaysInBounds :
    (∃ t, (withBus (abc .iterLoad) 0).Inv ∧ step (withBus (abc .iterLoad) 0) = .next t ∧ t.busy = true) ∧
    ∃ t, abcStart.Inv ∧ step abcStart = .next t ∧ t.busy = true ∧ t.phase = .padding :=
  ⟨⟨_, withMove_inv abcLoad_inv _, rfl, rfl⟩, _, abcStart_inv, rfl, rfl, rfl⟩

theorem witness_CoreTurnsAlwaysComplete : (abc .iterLoad).Inv ∧ (abc .iterLoad).coreIsNext := ⟨abcLoad_inv, by decide⟩

theorem witness_EveryStepKeepsTheComputation : ∃ t, (abc .iterLoad).Inv ∧ (abc .iterLoad).computes ∧
    step (abc .iterLoad) = .next t := ⟨_, abcLoad_inv, rfl, rfl⟩

theorem abcFinal_computes : abcFinal.computes := by
  have h : abcFinal.message = [0x61, 0x62, 0x63] := by decide
  show abcFinal.h = transform abcFinal.message
  rw [h]
  rfl

theorem witness_DoneHoldsTheTransformOfTheMessage : ∃ t, abcFinal.Inv ∧ abcFinal.computes ∧ step abcFinal = .next t ∧
    abcFinal.phase ≠ .done ∧ t.phase = .done := ⟨_, abcFinal_inv, abcFinal_computes, rfl, by decide, rfl⟩

theorem witness_EveryCoreTurnTakesOneMicroOpOff :
    (∃ t, abcStart.Inv ∧ abcStart.startsNext ∧ step abcStart = .next t ∧ abcStart.admits) ∧
    (∃ t, (withBus errored 0x8000000001).Inv ∧ (withBus errored 0x8000000001).startsNext ∧
      step (withBus errored 0x8000000001) = .next t ∧ ¬ (withBus errored 0x8000000001).admits) ∧
    ∃ t, (abc .iterFeed).Inv ∧ (abc .iterFeed).coreIsNext ∧ (abc .iterFeed).busy = true ∧ step (abc .iterFeed) = .next t :=
  ⟨⟨_, abcStart_inv, ⟨rfl, 5, rfl⟩, rfl, by decide⟩, ⟨_, withMove_inv errored_inv _, ⟨rfl, 1, rfl⟩, rfl, by decide⟩,
    _, abcFeed_inv, by decide, rfl, rfl⟩

theorem witness_ComputationEndsWithTheDigest :
    (abcStart.Inv ∧ abcStart.busy = false ∧ BitVec.getLsbD (5 : Word) 1 = false ∧ BitVec.getLsbD (5 : Word) 0 = true ∧
      abcStart.moves = [.bus ⟨32, writeDesc 0x00 5⟩] ∧ abcStart.admits) ∧
    ((withBus errored 0x8000000001).Inv ∧ (withBus errored 0x8000000001).busy = false ∧
      (withBus errored 0x8000000001).moves = [.bus ⟨32, writeDesc 0x00 1⟩] ∧ ¬ (withBus errored 0x8000000001).admits) :=
  ⟨⟨abcStart_inv, by decide⟩, withMove_inv errored_inv _, by decide⟩

/-- `q` of the RFC's form, and the two ends of the rotation. -/
theorem witness_RotationAndRfcForm : (15 : Nat) < 16 ∧ (1 : Nat) ≤ 31 ∧ (31 : Nat) < 32 := by decide

/-- The two messages that meet the ends of R102. -/
theorem witness_PaddedLengthIsTheSmallestMultiple_ends : 55 % 64 = 55 ∧ 56 % 64 = 56 ∧ paddedLength 55 - 55 = 9 ∧
    paddedLength 56 - 56 = 72 := by decide

end Sys2Proof.Machine.Tests
end

namespace Sys2Proof.Machine

/-! ### The host's writes by their condition -/

section
variable {s : State} (hi : Bool) (data : Word)

theorem exec_wrSrc_of_busy (hb : s.busy = true) : exec (.wrSrc hi data) s = .next s.noteBusy := by
  simp [exec, execWrSrc, hb]

theorem exec_wrSrc_of_not_busy (hb : s.busy = false) : exec (.wrSrc hi data) s =
    .next (s.setSrc (BitVec.ofNat 64 ((insertHalf hi s.src data).toNat % 2 ^ s.addrW))) := by
  simp [exec, execWrSrc, hb]

theorem exec_wrLen_of_busy (hb : s.busy = true) : exec (.wrLen hi data) s = .next s.noteBusy := by
  simp [exec, execWrLen, hb]

theorem exec_wrLen_of_not_busy (hb : s.busy = false) :
    exec (.wrLen hi data) s = .next (s.setLen (insertHalf hi s.len data)) := by
  simp [exec, execWrLen, hb]

theorem exec_wrCtrlStart_of_busy (hb : s.busy = true) :
    exec (.wrCtrlStart data) s = .next (s.setIrqEn (ctrlIrqEn data)).noteBusy := by
  simp [exec, execWrCtrlStart, hb]

theorem exec_wrCtrlStart_of_not_busy (hb : s.busy = false) :
    exec (.wrCtrlStart data) s = .next (s.setIrqEn (ctrlIrqEn data)).acceptStart := by
  simp [exec, execWrCtrlStart, hb]

end

/-! ### What a host transaction does, said once -/

/-- The writes to read-only registers and to the reserved offset, R162 and R165 to R169. -/
def isIgnoredWrite : Instr → Bool
  | .wrStatus _ | .wrNblk _ _ | .wrBlk _ _ | .wrStep _ | .wrRsvd _ | .wrDigest _ _ => true
  | _ => false

/-- The state a host transaction leaves, R150 to R169, with the condition under which it does. -/
inductive HostEffect (s : State) : Instr → State → Prop
  | answers {i : Instr} (w : Word) (hi : isRead i = true) : HostEffect s i (s.respond w)
  | clears (data : Word) : HostEffect s (.wrCtrlClear data) s.resetCore
  | startIgnored (data : Word) (hb : s.busy = true) :
      HostEffect s (.wrCtrlStart data) (s.setIrqEn (ctrlIrqEn data)).noteBusy
  | startAccepted (data : Word) (hb : s.busy = false) :
      HostEffect s (.wrCtrlStart data) (s.setIrqEn (ctrlIrqEn data)).acceptStart
  | configures (data : Word) : HostEffect s (.wrCtrlCfg data) (s.setIrqEn (ctrlIrqEn data))
  | srcIgnored (hi : Bool) (data : Word) (hb : s.busy = true) : HostEffect s (.wrSrc hi data) s.noteBusy
  | srcWritten (hi : Bool) (data : Word) (hb : s.busy = false) :
      HostEffect s (.wrSrc hi data) (s.setSrc (BitVec.ofNat 64 ((insertHalf hi s.src data).toNat % 2 ^ s.addrW)))
  | lenIgnored (hi : Bool) (data : Word) (hb : s.busy = true) : HostEffect s (.wrLen hi data) s.noteBusy
  | lenWritten (hi : Bool) (data : Word) (hb : s.busy = false) :
      HostEffect s (.wrLen hi data) (s.setLen (insertHalf hi s.len data))
  | ignored {i : Instr} (hi : isIgnoredWrite i = true) : HostEffect s i s

/-- Every host transaction completes, from every state. -/
theorem exec_hostOp {i : Instr} (hi : isMicroOp i = false) (s : State) : ∃ t, exec i s = .next t ∧ HostEffect s i t := by
  cases i with
  | rdCtrl | rdStatus | rdStep | rdRsvd => exact ⟨_, rfl, .answers _ rfl⟩
  | rdSrc _ | rdLen _ | rdNblk _ | rdBlk _ | rdDigest _ => exact ⟨_, rfl, .answers _ rfl⟩
  | wrCtrlClear data => exact ⟨_, rfl, .clears data⟩
  | wrCtrlCfg data => exact ⟨_, rfl, .configures data⟩
  | wrStatus _ | wrStep _ | wrRsvd _ => exact ⟨_, rfl, .ignored rfl⟩
  | wrNblk _ _ | wrBlk _ _ | wrDigest _ _ => exact ⟨_, rfl, .ignored rfl⟩
  | wrCtrlStart data =>
    cases hb : s.busy with
    | true => exact ⟨_, exec_wrCtrlStart_of_busy data hb, .startIgnored data hb⟩
    | false => exact ⟨_, exec_wrCtrlStart_of_not_busy data hb, .startAccepted data hb⟩
  | wrSrc high data =>
    cases hb : s.busy with
    | true => exact ⟨_, exec_wrSrc_of_busy high data hb, .srcIgnored high data hb⟩
    | false => exact ⟨_, exec_wrSrc_of_not_busy high data hb, .srcWritten high data hb⟩
  | wrLen high data =>
    cases hb : s.busy with
    | true => exact ⟨_, exec_wrLen_of_busy high data hb, .lenIgnored high data hb⟩
    | false => exact ⟨_, exec_wrLen_of_not_busy high data hb, .lenWritten high data hb⟩
  | pad | load | feed | final => cases hi
  | stepF _ | stepG _ | stepH _ | stepI _ => cases hi

theorem hostEffect_of_exec {i : Instr} {s t : State} (hi : isMicroOp i = false) (h : exec i s = .next t) :
    HostEffect s i t := by
  obtain ⟨t', ht', effect⟩ := exec_hostOp hi s
  cases ht'.symm.trans h
  exact effect

/-- IDLE, DONE and ERROR are the phases that are not BUSY, R34. -/
theorem Phase.not_busy_iff (p : Phase) : p.busy = false ↔ p = .idle ∨ p = .done ∨ p = .error := by
  cases p <;> decide

/-! ### What a micro-op does, said once -/

/-- The state after PAD of an admitted message, R103. -/
def State.counted (s : State) : State := (s.setNblk (BitVec.ofNat 64 (blockCount s.len.toNat))).setPhase .iterLoad

/-- The state after a FEED, R132. -/
def State.fed (s : State) : State :=
  ((s.setH (addWords s.h s.r)).setBlk (s.blk + 1)).setPhase
    (if (s.blk + 1).toNat < s.nblk.toNat then .iterLoad else .finalizing)

/-- The state after FINAL, R140. -/
def State.finished (s : State) : State := (s.setDigest s.h).setPhase .done

theorem checks_false_iff_admits (s : State) : (s.lenTooLarge || s.pastInMem) = false ↔ s.admits := by
  simp [State.lenTooLarge, State.pastInMem]

/-- PAD of an admitted message, R103. -/
theorem exec_pad_of_admits {s : State} (h : s.admits) :
    exec .pad s = .next s.counted := by
  show execPad s = _
  simp [execPad, State.counted, (checks_false_iff_admits s).2 h]

/-- PAD's rejection, R103 and R188. -/
theorem exec_pad_of_not_admits {s : State} (h : ¬ s.admits) :
    exec .pad s = .next (s.enterError s.lenTooLarge s.pastInMem) := by
  show execPad s = _
  have hc : (s.lenTooLarge || s.pastInMem) = true := by
    rw [← checks_false_iff_admits] at h
    exact Bool.eq_true_of_not_eq_false h
  simp only [execPad, hc, if_true]

theorem exec_feed (s : State) : exec .feed s = .next s.fed := rfl

theorem exec_final (s : State) : exec .final s = .next s.finished := rfl

/-- The state a micro-op leaves, R103, R111, R127 to R130, R132 and R140. -/
inductive MicroEffect (s : State) : Instr → State → Prop
  | padAdmits (ha : s.admits) :
      MicroEffect s .pad s.counted
  | padRejects (ha : ¬ s.admits) : MicroEffect s .pad (s.enterError s.lenTooLarge s.pastInMem)
  | loads : MicroEffect s .load s.loaded
  | rounds (i : BitVec 6) : MicroEffect s (stepOpAt i) (s.compressStep (mixOfRound (i.extractLsb' 4 2)) i)
  | feeds : MicroEffect s .feed s.fed
  | finishes : MicroEffect s .final s.finished

/-- The micro-ops, the STEP micro-ops by their index, R86. -/
theorem microOp_cases {i : Instr} (hi : isMicroOp i = true) :
    i = .pad ∨ i = .load ∨ (∃ k, i = stepOpAt k) ∨ i = .feed ∨ i = .final := by
  have steps : ∀ j : BitVec 4, .stepF j = stepOpAt (stepIndex 0 j) ∧ .stepG j = stepOpAt (stepIndex 1 j) ∧
      .stepH j = stepOpAt (stepIndex 2 j) ∧ .stepI j = stepOpAt (stepIndex 3 j) := by decide
  cases i with
  | pad | load | feed | final => simp
  | stepF j => exact .inr (.inr (.inl ⟨_, (steps j).1⟩))
  | stepG j => exact .inr (.inr (.inl ⟨_, (steps j).2.1⟩))
  | stepH j => exact .inr (.inr (.inl ⟨_, (steps j).2.2.1⟩))
  | stepI j => exact .inr (.inr (.inl ⟨_, (steps j).2.2.2⟩))
  | _ => cases hi

/-- A STEP micro-op is none of the other four, R86. -/
theorem stepOpAt_ne (i : BitVec 6) :
    stepOpAt i ≠ .pad ∧ stepOpAt i ≠ .load ∧ stepOpAt i ≠ .feed ∧ stepOpAt i ≠ .final := by
  revert i; decide

theorem microEffect_of_exec {i : Instr} {s t : State} (hi : isMicroOp i = true) (h : exec i s = .next t) :
    MicroEffect s i t := by
  rcases microOp_cases hi with rfl | rfl | ⟨k, rfl⟩ | rfl | rfl
  · by_cases ha : s.admits
    · cases (exec_pad_of_admits ha).symm.trans h
      exact .padAdmits ha
    · cases (exec_pad_of_not_admits ha).symm.trans h
      exact .padRejects ha
  · cases exec_load_next h
    exact .loads
  · cases (exec_stepOpAt k s).symm.trans h
    exact .rounds k
  · cases (exec_feed s).symm.trans h
    exact .feeds
  · cases (exec_final s).symm.trans h
    exact .finishes

/-! ### The frame of the micro-ops -/

namespace MicroEffect

variable {s t : State} {i : Instr}

theorem same_operands (e : MicroEffect s i t) : SameOperands s t := by
  cases e <;> simp [SameOperands, State.counted, State.fed, State.finished]

theorem same_inMem (e : MicroEffect s i t) : t.inMem = s.inMem := by
  cases e <;> simp [State.counted, State.fed, State.finished]

theorem same_setting (e : MicroEffect s i t) : SameSetting s t ∧ t.busRdata = s.busRdata := by
  cases e <;> simp [SameSetting, State.counted, State.fed, State.finished]

theorem same_irqEn_errBusy (e : MicroEffect s i t) : t.irqEn = s.irqEn ∧ t.errBusy = s.errBusy := by
  cases e <;> simp [State.counted, State.fed, State.finished]

/-- NBLK and the input error flags are PAD's, R28 and R32. -/
theorem same_nblk_and_input_errors (e : MicroEffect s i t) (hi : i ≠ .pad) :
    t.nblk = s.nblk ∧ t.errTooLarge = s.errTooLarge ∧ t.errRange = s.errRange := by
  cases e with
  | padAdmits | padRejects => exact absurd rfl hi
  | loads | rounds | feeds | finishes => simp [State.fed, State.finished]

/-- M is LOAD's, R24. -/
theorem same_m (e : MicroEffect s i t) (hi : i ≠ .load) : t.m = s.m := by
  cases e with
  | loads => exact absurd rfl hi
  | padAdmits | padRejects | rounds | feeds | finishes => simp [State.counted, State.fed, State.finished]

/-- H and BLK are FEED's, R21 and R27. -/
theorem same_h_and_blk (e : MicroEffect s i t) (hi : i ≠ .feed) : t.h = s.h ∧ t.blk = s.blk := by
  cases e with
  | feeds => exact absurd rfl hi
  | padAdmits | padRejects | loads | rounds | finishes => simp [State.counted, State.finished]

/-- DIGEST is FINAL's, R33. -/
theorem same_digest (e : MicroEffect s i t) (hi : i ≠ .final) : t.digest = s.digest := by
  cases e with
  | finishes => exact absurd rfl hi
  | padAdmits | padRejects | loads | rounds | feeds => simp [State.counted, State.fed]

/-- r and STEP are LOAD's and the STEP micro-ops', R23 and R26. -/
theorem same_r_and_step (e : MicroEffect s i t) (hi : i = .pad ∨ i = .feed ∨ i = .final) :
    t.r = s.r ∧ t.step = s.step := by
  cases e with
  | loads => simp at hi
  | rounds k =>
    obtain ⟨hpad, -, hfeed, hfinal⟩ := stepOpAt_ne k
    simp [hpad, hfeed, hfinal] at hi
  | padAdmits | padRejects | feeds | finishes => simp [State.counted, State.fed, State.finished]

end MicroEffect

/-- Settles O42: the frame of `MicroEffect`, group by group. -/
theorem microOpsFrame : Obligations.MicroOpsFrame := by
  unfold Obligations.MicroOpsFrame
  intro i s t hi hx
  have e := microEffect_of_exec hi hx
  obtain ⟨setting, rdata⟩ := e.same_setting
  obtain ⟨irqEn, errBusy⟩ := e.same_irqEn_errBusy
  have mem : SameInMem s t := fun a => by simp only [State.memRead, e.same_inMem]
  exact ⟨e.same_operands, irqEn, errBusy, mem, setting, rdata, e.same_nblk_and_input_errors, e.same_m, e.same_h_and_blk,
    e.same_digest, e.same_r_and_step⟩

/-- PAD adds the flags of its two checks, and clears none, R103. -/
theorem exec_pad_errors {s t : State} (h : exec .pad s = .next t) :
    t.errTooLarge = (s.errTooLarge || s.lenTooLarge) ∧ t.errRange = (s.errRange || s.pastInMem) ∧ t.errBusy = s.errBusy := by
  by_cases ha : s.admits
  · have hc := (checks_false_iff_admits s).2 ha
    rw [Bool.or_eq_false_iff] at hc
    cases (exec_pad_of_admits ha).symm.trans h
    simp [State.counted, hc]
  · cases (exec_pad_of_not_admits ha).symm.trans h
    exact ⟨rfl, rfl, rfl⟩

/-! ### The turns that stop -/

theorem step_bus_refused {s : State} {req : BusReq} (h : s.hostIsNext req)
    (hr : req.width = 32 → decodeDesc req.desc = none) : step s = .refused .busError := by
  simp only [step, fetch_bus h, busTurn]
  by_cases hw : req.width = 32
  · simp [hw, hr hw]
  · simp [hw]

/-- The host's write of a byte by its two conditions, R60 and R72. -/
theorem step_memWrite {s : State} {a : Nat} {b : Byte} (h : s.moves.head? = some (.memWrite a b)) :
    (a < 2 ^ s.addrW → s.writeAllowed a b → step s = .next (s.takeTurn.setInMem (Memory.write s.inMem a b))) ∧
    (a < 2 ^ s.addrW → ¬ s.writeAllowed a b → step s = .refused .messageChangedWhileBusy) ∧
    (¬ a < 2 ^ s.addrW → step s = .fault .inMemAddress) := by
  have hin : s.takeTurn.inMemHas a = decide (a < 2 ^ s.addrW) := rfl
  simp only [step, fetch_memWrite h, memWriteTurn, hin, decide_eq_true_eq]
  refine ⟨fun ha hb => ?_, fun ha hb => ?_, fun ha => by rw [if_neg ha]⟩
  · have hb : (s.takeTurn.busy && s.takeTurn.isMessageByte a && s.takeTurn.memRead a != b) = false := hb
    simp only [if_pos ha, hb]
    rfl
  · have hb : (s.takeTurn.busy && s.takeTurn.isMessageByte a && s.takeTurn.memRead a != b) = true :=
      Bool.eq_true_of_not_eq_false hb
    simp only [if_pos ha, hb]
    rfl

end Sys2Proof.Machine

namespace Sys2Proof.Machine

/-! ### The invariant under the updates that move no phase -/

namespace State.Inv

variable {s : State}

theorem takeTurn (h : s.Inv) : s.takeTurn.Inv :=
  ⟨h.addrW_legal, h.inMem_wf, h.inMem_bounded, h.src_bounded, h.step_zero, h.position⟩

theorem respond (h : s.Inv) (w : Word) : (s.respond w).Inv :=
  ⟨h.addrW_legal, h.inMem_wf, h.inMem_bounded, h.src_bounded, h.step_zero, h.position⟩

theorem setIrqEn (h : s.Inv) (v : Bool) : (s.setIrqEn v).Inv :=
  ⟨h.addrW_legal, h.inMem_wf, h.inMem_bounded, h.src_bounded, h.step_zero, h.position⟩

/-- The host's write of a byte of InMem, R60. -/
theorem memWrite (h : s.Inv) {a : Nat} (ha : a < 2 ^ s.addrW) (b : Byte) : (s.setInMem (Memory.write s.inMem a b)).Inv :=
  ⟨h.addrW_legal, Memory.wf_write h.inMem_wf a b, Memory.bounded_write h.inMem_bounded ha, h.src_bounded, h.step_zero,
    h.position⟩

/-- ERR_BUSY stays 0 in IDLE alone, R32. -/
theorem noteBusy (h : s.Inv) (hb : s.busy = true) : s.noteBusy.Inv := by
  refine ⟨h.addrW_legal, h.inMem_wf, h.inMem_bounded, h.src_bounded, h.step_zero, ?_⟩
  have hp := h.position
  rcases (Phase.busy_iff s.phase).1 hb with e | e | e | e | e <;>
    (simp only [State.positionInv, noteBusy_phase, e] at hp ⊢; exact hp)

/-- A computation begins, R160. -/
theorem acceptStart (h : s.Inv) : s.acceptStart.Inv :=
  ⟨h.addrW_legal, h.inMem_wf, h.inMem_bounded, h.src_bounded, fun _ => rfl, ⟨rfl, rfl, rfl, rfl, rfl⟩⟩

/-- The reset of the core, R51. -/
theorem resetCore (h : s.Inv) : s.resetCore.Inv :=
  ⟨h.addrW_legal, h.inMem_wf, h.inMem_bounded, Nat.two_pow_pos _, fun _ => rfl, ⟨rfl, rfl, ⟨rfl, rfl⟩, rfl⟩⟩

/-- The operands are written outside the phases that speak of them, R163. -/
theorem setSrc (h : s.Inv) (hb : s.busy = false) {v : DWord} (hv : v.toNat < 2 ^ s.addrW) : (s.setSrc v).Inv := by
  refine ⟨h.addrW_legal, h.inMem_wf, h.inMem_bounded, hv, h.step_zero, ?_⟩
  have hp := h.position
  rcases (Phase.not_busy_iff s.phase).1 hb with e | e | e <;>
    (simp only [State.positionInv, setSrc_phase, e] at hp ⊢; exact hp)

/-- The operands are written outside the phases that speak of them, R164. -/
theorem setLen (h : s.Inv) (hb : s.busy = false) (v : DWord) : (s.setLen v).Inv := by
  refine ⟨h.addrW_legal, h.inMem_wf, h.inMem_bounded, h.src_bounded, h.step_zero, ?_⟩
  have hp := h.position
  rcases (Phase.not_busy_iff s.phase).1 hb with e | e | e <;>
    (simp only [State.positionInv, setLen_phase, e] at hp ⊢; exact hp)

end State.Inv

/-! ### The invariant under the host's transactions -/

/-- What WR_SRC stores lies below 2^ADDR_W, R29 and R163. -/
theorem toNat_ofNat_mod_two_pow_lt (n w : Nat) : (BitVec.ofNat 64 (n % 2 ^ w)).toNat < 2 ^ w := by
  rw [BitVec.toNat_ofNat]
  exact (Nat.mod_le _ _).trans_lt (Nat.mod_lt _ (Nat.two_pow_pos w))

theorem HostEffect.keeps_inv {i : Instr} {s t : State} (e : HostEffect s i t) (h : s.Inv) : t.Inv := by
  cases e with
  | answers w _ => exact h.respond w
  | clears _ => exact h.resetCore
  | startIgnored data hb => exact (h.setIrqEn _).noteBusy hb
  | startAccepted data _ => exact (h.setIrqEn _).acceptStart
  | configures data => exact h.setIrqEn _
  | srcIgnored _ _ hb | lenIgnored _ _ hb => exact h.noteBusy hb
  | srcWritten _ _ hb => exact h.setSrc hb (toNat_ofNat_mod_two_pow_lt _ _)
  | lenWritten _ _ hb => exact h.setLen hb _
  | ignored _ => exact h

/-! ### The invariant under the micro-ops, phase by phase -/

theorem positionInv_iff_iterating {s : State}
    (hp : s.phase = .iterLoad ∨ s.phase = .iterRound ∨ s.phase = .iterFeed) :
    s.positionInv ↔ s.iterating ∧ s.blk.toNat < s.nblk.toNat := by
  unfold State.positionInv
  rcases hp with e | e | e <;> rw [e]

@[simp] theorem compressStep_iterating (s : State) (fn : Word → Word → Word → Word) (i : BitVec 6) :
    (s.compressStep fn i).iterating ↔ s.iterating := by
  simp [State.iterating, State.admits, State.noInputError]

@[simp] theorem loaded_iterating (s : State) : s.loaded.iterating ↔ s.iterating := by
  simp [State.iterating, State.admits, State.noInputError]

namespace State.Inv

variable {s : State}

/-- An admitted message's first block follows PAD. -/
theorem counted (h : s.Inv) (hp : s.phase = .padding) (ha : s.admits) : s.counted.Inv := by
  have hn : (BitVec.ofNat 64 (blockCount s.len.toNat)).toNat = blockCount s.len.toNat := blockCount_toNat ha.1
  refine ⟨h.addrW_legal, h.inMem_wf, h.inMem_bounded, h.src_bounded, fun _ => h.step_zero (by simp [hp]), ?_⟩
  have pos := h.position
  simp only [State.positionInv, hp] at pos
  obtain ⟨hblk, -, -, hflags⟩ := pos
  refine ⟨⟨ha, hn, hflags⟩, ?_⟩
  show s.blk.toNat < (BitVec.ofNat 64 (blockCount s.len.toNat)).toNat
  rw [hn, hblk]
  exact blockCount_pos _

/-- A rejection records at least one flag, R103. -/
theorem enterError (h : s.Inv) (hp : s.phase = .padding) (ha : ¬ s.admits) :
    (s.enterError s.lenTooLarge s.pastInMem).Inv := by
  refine ⟨h.addrW_legal, h.inMem_wf, h.inMem_bounded, h.src_bounded, fun _ => h.step_zero (by simp [hp]), ?_⟩
  have pos := h.position
  simp only [State.positionInv, hp] at pos
  obtain ⟨hblk, hnblk, hh, -, -⟩ := pos
  refine ⟨hblk, hnblk, hh, ?_⟩
  rw [← checks_false_iff_admits, Bool.not_eq_false, Bool.or_eq_true] at ha
  exact ha.imp (fun hl => by simp [hl]) fun hr => by simp [hr]

/-- What the phases of the iteration share. -/
theorem iterating (h : s.Inv) (hp : s.phase = .iterLoad ∨ s.phase = .iterRound ∨ s.phase = .iterFeed) :
    s.iterating ∧ s.blk.toNat < s.nblk.toNat :=
  (positionInv_iff_iterating hp).1 h.position

theorem loaded (h : s.Inv) (hp : s.phase = .iterLoad) : s.loaded.Inv where
  addrW_legal := by simpa using h.addrW_legal
  inMem_wf := by simpa using h.inMem_wf
  inMem_bounded := by simpa using h.inMem_bounded
  src_bounded := by simpa using h.src_bounded
  step_zero _ := loaded_step s
  position := (positionInv_iff_iterating (.inr (.inl (loaded_phase s)))).2 (by simpa using h.iterating (.inl hp))

/-- STEP returns to 0 as step 63 leaves the round, R26. -/
theorem compressStep (h : s.Inv) (hp : s.phase = .iterRound) (fn : Word → Word → Word → Word) (i : BitVec 6) :
    (s.compressStep fn i).Inv where
  addrW_legal := by simpa using h.addrW_legal
  inMem_wf := by simpa using h.inMem_wf
  inMem_bounded := by simpa using h.inMem_bounded
  src_bounded := by simpa using h.src_bounded
  step_zero hne := by
    by_cases hi : i = 63
    · rw [compressStep_step, if_pos hi]
    · exact absurd (by rw [compressStep_phase, if_neg hi, hp]) hne
  position := by
    have hphase : (s.compressStep fn i).phase = .iterRound ∨ (s.compressStep fn i).phase = .iterFeed := by
      rw [compressStep_phase, hp]
      split
      · exact .inr rfl
      · exact .inl rfl
    exact (positionInv_iff_iterating (.inr hphase)).2 (by simpa using h.iterating (.inr (.inl hp)))

/-- FEED's incremented BLK is below NBLK, or is NBLK at the last block, R132. -/
theorem fed (h : s.Inv) (hp : s.phase = .iterFeed) : s.fed.Inv := by
  obtain ⟨it, hlt⟩ := h.iterating (.inr (.inr hp))
  refine ⟨h.addrW_legal, h.inMem_wf, h.inMem_bounded, h.src_bounded, fun _ => h.step_zero (by simp [hp]), ?_⟩
  unfold State.fed
  split
  · next hmore => exact ⟨it, hmore⟩
  · next hlast =>
    have hblk : s.blk + 1 = s.nblk := by bv_omega
    exact ⟨it, hblk⟩

/-- DONE keeps the position the last FEED reached, R140. -/
theorem finished (h : s.Inv) (hp : s.phase = .finalizing) : s.finished.Inv := by
  have pos := h.position
  simp only [State.positionInv, hp] at pos
  obtain ⟨⟨ha, hn, hflags⟩, hblk⟩ := pos
  refine ⟨h.addrW_legal, h.inMem_wf, h.inMem_bounded, h.src_bounded, fun _ => h.step_zero (by simp [hp]), ?_⟩
  refine ⟨hblk, ?_, ?_, hflags⟩
  · show 1 ≤ s.nblk.toNat
    rw [hn]; exact blockCount_pos _
  · show s.nblk.toNat ≤ _
    rw [hn]; exact blockCount_le ha.1

end State.Inv

/-- The micro-op a phase selects completes from a state that meets the invariant, and keeps it. -/
theorem microOp_completes_and_keeps_inv {s : State} {i : Instr} (h : s.Inv) (hi : decodeMicro s.microWord = some i) :
    ∃ t, exec i s = .next t ∧ t.Inv := by
  rw [decodeMicro_microWord] at hi
  cases hp : s.phase <;> simp only [hp] at hi <;> cases hi
  case padding =>
    by_cases ha : s.admits
    · exact ⟨_, exec_pad_of_admits ha, h.counted hp ha⟩
    · exact ⟨_, exec_pad_of_not_admits ha, h.enterError hp ha⟩
  case iterLoad =>
    obtain ⟨⟨ha, hn, -⟩, hlt⟩ := h.iterating (.inl hp)
    exact ⟨_, exec_load_of_admits (hn ▸ hlt) ha.2, h.loaded hp⟩
  case iterRound => exact ⟨_, exec_stepOpAt s.step s, h.compressStep hp _ _⟩
  case iterFeed => exact ⟨_, exec_feed s, h.fed hp⟩
  case finalizing => exact ⟨_, exec_final s, h.finished hp⟩

theorem step_keeps_inv {s t : State} (h : s.Inv) (hst : step s = .next t) : t.Inv := by
  rcases step_cases hst with ⟨i, -, hi, hx⟩ | ⟨-, -, rfl⟩ | ⟨req, i, -, -, hi, hx⟩ | ⟨-, rfl⟩ | ⟨a, b, -, ha, -, rfl⟩
  · obtain ⟨t', ht', inv⟩ := microOp_completes_and_keeps_inv h.takeTurn hi
    cases ht'.symm.trans hx
    exact inv
  · exact h.takeTurn
  · exact (hostEffect_of_exec (isMicroOp_of_decodeDesc hi) hx).keeps_inv h.takeTurn
  · exact h.takeTurn.resetCore
  · exact h.takeTurn.memWrite ha b

/-- Settles O53: `step_cases` splits the step into its turns; each micro-op, transaction, reset and write keeps the invariant. -/
theorem everyStepKeepsTheInvariant : Obligations.EveryStepKeepsTheInvariant := by
  unfold Obligations.EveryStepKeepsTheInvariant
  exact fun _ _ => step_keeps_inv

end Sys2Proof.Machine

namespace Sys2Proof.Machine

/-! ### Reset -/

/-- Settles O10: R51's values, field by field. -/
theorem resetStateHoldsResetValues : Obligations.ResetStateHoldsResetValues := by
  unfold Obligations.ResetStateHoldsResetValues
  exact ⟨⟨rfl, rfl, rfl, rfl, rfl, rfl, rfl, ⟨rfl, rfl, rfl⟩, by decide, rfl⟩, rfl, rfl⟩

/-- Settles O52: the phase is IDLE, where the position is 0 and no flag is set, and `computes` asks nothing. -/
theorem invariantHoldsAtReset : Obligations.InvariantHoldsAtReset := by
  unfold Obligations.InvariantHoldsAtReset
  have inv : State.reset.Inv :=
    { addrW_legal := by decide
      inMem_wf := reset_inMem_wf
      inMem_bounded := fun _ hc => absurd hc List.not_mem_nil
      src_bounded := Nat.two_pow_pos _
      step_zero := fun _ => rfl
      position := ⟨rfl, rfl, ⟨rfl, rfl⟩, rfl⟩ }
  exact ⟨inv, trivial⟩

/-! ### What the invariant gives -/

/-- While BUSY the message is admitted and counted, but for PADDING, R28 and R187. -/
theorem State.Inv.iterating_of_busy {s : State} (h : s.Inv) (hb : s.busy = true) : s.phase = .padding ∨ s.iterating := by
  have pos := h.position
  rcases (Phase.busy_iff s.phase).1 hb with hp | hp | hp | hp | hp <;> simp only [State.positionInv, hp] at pos
  · exact .inl hp
  all_goals exact .inr pos.1

/-- The bounds of the position, R27 and R28. -/
theorem State.Inv.position_bounds {s : State} (h : s.Inv) :
    s.blk.toNat ≤ s.nblk.toNat ∧ s.nblk.toNat ≤ 2 ^ 55 + 1 := by
  have pos := h.position
  cases hp : s.phase <;> simp only [State.positionInv, hp] at pos
  case idle | padding | error =>
    obtain ⟨hblk, hnblk, -⟩ := pos
    simp [hblk, hnblk]
  case iterLoad | iterRound | iterFeed =>
    obtain ⟨⟨⟨hlen, -⟩, hn, -⟩, hlt⟩ := pos
    exact ⟨hlt.le, hn ▸ blockCount_le hlen⟩
  case finalizing =>
    obtain ⟨⟨⟨hlen, -⟩, hn, -⟩, hblk⟩ := pos
    exact ⟨hblk ▸ le_rfl, hn ▸ blockCount_le hlen⟩
  case done =>
    obtain ⟨hblk, -, hle, -⟩ := pos
    exact ⟨hblk ▸ le_rfl, hle⟩

/-- Settles O54: the invariant holds after the step, and its position has these bounds. -/
theorem positionStaysInBounds : Obligations.PositionStaysInBounds := by
  unfold Obligations.PositionStaysInBounds
  intro s t h hst
  have inv := step_keeps_inv h hst
  obtain ⟨hblk, hnblk⟩ := inv.position_bounds
  exact ⟨hblk, hnblk, fun hb => (inv.iterating_of_busy hb).imp id fun it => it.2.1⟩

/-- Settles O55: a quiescent core waits, and the micro-op a phase selects completes under the invariant. -/
theorem coreTurnsAlwaysComplete : Obligations.CoreTurnsAlwaysComplete := by
  unfold Obligations.CoreTurnsAlwaysComplete
  intro s h hc
  cases hd : decodeMicro s.microWord with
  | none => exact ⟨_, step_core_idle hc hd⟩
  | some i =>
    obtain ⟨t, ht, -⟩ := microOp_completes_and_keeps_inv h.takeTurn hd
    exact ⟨t, (step_core hc hd).trans ht⟩

/-! ### The register map -/

/-- The read of the register at byte offset 4·idx, R36 and R82. -/
def readAt (idx : BitVec 4) : Instr :=
  match idx.toNat with
  | 0 => .rdCtrl
  | 1 => .rdStatus
  | 2 => .rdSrc false
  | 3 => .rdSrc true
  | 4 => .rdLen false
  | 5 => .rdLen true
  | 6 => .rdNblk false
  | 7 => .rdNblk true
  | 8 => .rdBlk false
  | 9 => .rdBlk true
  | 10 => .rdStep
  | 11 => .rdRsvd
  | 12 => .rdDigest 0
  | 13 => .rdDigest 1
  | 14 => .rdDigest 2
  | _ => .rdDigest 3

theorem isRead_readAt (idx : BitVec 4) : isRead (readAt idx) = true := by
  revert idx; decide

theorem decode_readDesc_readAt (idx : BitVec 4) : decode (.desc (readDesc (idx ++ 0#2))) = some (readAt idx) := by
  revert idx; decide

/-- Each read answers the window's word, R36 to R45. -/
theorem exec_readAt (idx : BitVec 4) (s : State) : exec (readAt idx) s = .next (s.respond (s.windowWord idx)) := by
  obtain ⟨n, hn, rfl⟩ : ∃ n, n < 16 ∧ idx = BitVec.ofNat 4 n := ⟨idx.toNat, idx.isLt, by simp⟩
  interval_cases n <;> rfl

/-- Settles O18: the descriptor at offset 4·idx decodes to `readAt idx`, which answers the window's word there. -/
theorem readsFollowTheRegisterMap : Obligations.ReadsFollowTheRegisterMap := by
  unfold Obligations.ReadsFollowTheRegisterMap
  exact fun s idx => ⟨readAt idx, decode_readDesc_readAt idx, isRead_readAt idx, exec_readAt idx s⟩

end Sys2Proof.Machine

namespace Sys2Proof.Machine

/-! ### The error flags -/

/-- The next step is a write that a BUSY core answers with ERR_BUSY alone: of SRC, of LEN, or a START (R183). -/
abbrev State.writesGuarded (s : State) : Prop :=
  ∃ hi data, s.runs (.wrSrc hi data) ∨ s.runs (.wrLen hi data) ∨ s.runs (.wrCtrlStart data)

theorem errors_of_runs_pad {s t : State} (hr : s.runs .pad) (hst : step s = .next t) :
    t.errTooLarge = (s.errTooLarge || s.lenTooLarge) ∧ t.errRange = (s.errRange || s.pastInMem) ∧ t.errBusy = s.errBusy :=
  exec_pad_errors (s := s.takeTurn) ((step_of_runs hr).symm.trans hst)

theorem errBusy_of_writesGuarded {s t : State} (hb : s.busy = true) (hw : s.writesGuarded) (hst : step s = .next t) :
    t.errBusy = true := by
  obtain ⟨hi, data, hr⟩ := hw
  rcases hr with hr | hr | hr <;> rw [step_of_runs hr] at hst
  · cases (exec_wrSrc_of_busy (s := s.takeTurn) hi data hb).symm.trans hst; rfl
  · cases (exec_wrLen_of_busy (s := s.takeTurn) hi data hb).symm.trans hst; rfl
  · cases (exec_wrCtrlStart_of_busy (s := s.takeTurn) data hb).symm.trans hst; rfl

/-- An accepted START, a CLEAR and a reset clear all three, R32. -/
theorem errors_of_startsNext_or_resetsNext {s t : State} (h : s.startsNext ∨ s.resetsNext) (hst : step s = .next t) :
    t.errTooLarge = false ∧ t.errRange = false ∧ t.errBusy = false := by
  rcases h with ⟨hb, data, hr⟩ | ⟨data, hr⟩ | hr
  · rw [step_of_runs hr, exec_wrCtrlStart_of_not_busy (s := s.takeTurn) data hb] at hst
    cases hst; exact ⟨rfl, rfl, rfl⟩
  · cases (step_of_runs hr).symm.trans hst; exact ⟨rfl, rfl, rfl⟩
  · cases (step_rst hr).symm.trans hst; exact ⟨rfl, rfl, rfl⟩

/-- What a step does to the error flags, and which step it is. -/
inductive ErrorsEffect (s t : State) : Prop
  | kept (same : SameErrors s t)
  | checked (hr : s.runs .pad) (tooLarge : t.errTooLarge = (s.errTooLarge || s.lenTooLarge))
      (range : t.errRange = (s.errRange || s.pastInMem)) (busy : t.errBusy = s.errBusy)
  | guarded (hb : s.busy = true) (hr : s.writesGuarded) (tooLarge : t.errTooLarge = s.errTooLarge)
      (range : t.errRange = s.errRange) (busy : t.errBusy = true)
  | cleared (hr : s.startsNext ∨ s.resetsNext)

/-- A micro-op's effect on the flags is PAD's, R32. -/
theorem errorsEffect_of_microOp {s t : State} {i : Instr} (hr : s.runs i) (hi : isMicroOp i = true)
    (hx : exec i s.takeTurn = .next t) : ErrorsEffect s t := by
  have e := microEffect_of_exec hi hx
  by_cases hpad : i = .pad
  · subst hpad
    obtain ⟨tooLarge, range, busy⟩ := exec_pad_errors hx
    exact .checked hr tooLarge range busy
  · obtain ⟨-, tooLarge, range⟩ := e.same_nblk_and_input_errors hpad
    exact .kept ⟨tooLarge, range, e.same_irqEn_errBusy.2⟩

theorem errorsEffect_of_hostEffect {s t : State} {i : Instr} (hr : s.runs i) (e : HostEffect s.takeTurn i t) :
    ErrorsEffect s t := by
  cases e with
  | answers | configures | srcWritten | lenWritten | ignored => exact .kept ⟨rfl, rfl, rfl⟩
  | clears data => exact .cleared (.inr (.inl ⟨data, hr⟩))
  | startAccepted data hb => exact .cleared (.inl ⟨hb, data, hr⟩)
  | startIgnored data hb => exact .guarded hb ⟨false, data, .inr (.inr hr)⟩ rfl rfl rfl
  | srcIgnored hi data hb => exact .guarded hb ⟨hi, data, .inl hr⟩ rfl rfl rfl
  | lenIgnored hi data hb => exact .guarded hb ⟨hi, data, .inr (.inl hr)⟩ rfl rfl rfl

theorem errorsEffect_of_step {s t : State} (hst : step s = .next t) : ErrorsEffect s t := by
  rcases step_cases hst with ⟨i, hc, hi, hx⟩ | ⟨-, -, rfl⟩ | ⟨req, i, hq, hw, hi, hx⟩ | ⟨hr, rfl⟩ | ⟨a, b, -, -, -, rfl⟩
  · exact errorsEffect_of_microOp (runs_core hc hi) (isMicroOp_of_decodeMicro hi) hx
  · exact .kept ⟨rfl, rfl, rfl⟩
  · exact errorsEffect_of_hostEffect (runs_bus hq hw hi) (hostEffect_of_exec (isMicroOp_of_decodeDesc hi) hx)
  · exact .cleared (.inr (.inr hr))
  · exact .kept ⟨rfl, rfl, rfl⟩

/-- Unless the step clears the flags, a set flag stays set, R32. -/
theorem ErrorsEffect.clears_or_keeps_set {s t : State} (e : ErrorsEffect s t) :
    (s.startsNext ∨ s.resetsNext) ∨
      (s.errTooLarge = true → t.errTooLarge = true) ∧ (s.errRange = true → t.errRange = true) ∧
        (s.errBusy = true → t.errBusy = true) := by
  cases e with
  | cleared hr => exact .inl hr
  | kept same => exact .inr ⟨same.1.trans, same.2.1.trans, same.2.2.trans⟩
  | checked _ tooLarge range busy => exact .inr ⟨fun h => by simp [tooLarge, h], fun h => by simp [range, h], busy.trans⟩
  | guarded _ _ tooLarge range busy => exact .inr ⟨tooLarge.trans, range.trans, fun _ => busy⟩

/-- Settles O45: the rises and the falls by `errorsEffect_of_step`, the converses by what PAD, the guarded writes, and START, CLEAR
and reset do. -/
theorem errorFlagsAreSticky : Obligations.ErrorFlagsAreSticky := by
  unfold Obligations.ErrorFlagsAreSticky
  intro s t hst
  have all_false := fun h => errors_of_startsNext_or_resetsNext (s := s) h hst
  have e := errorsEffect_of_step hst
  refine ⟨fun h0 h1 => ?_, fun h0 h1 => ?_, fun h0 h1 => ?_, fun hr => ?_, fun hb hw => errBusy_of_writesGuarded hb hw hst,
    fun h => ?_, all_false⟩
  · cases e with
    | checked hr tooLarge _ _ => exact ⟨hr, (lenTooLarge_iff s).1 (by simpa [h0, h1] using tooLarge)⟩
    | kept same => simp [same.1, h0] at h1
    | guarded _ _ tooLarge _ _ => simp [tooLarge, h0] at h1
    | cleared hr => simp [all_false hr] at h1
  · cases e with
    | checked hr _ range _ => exact ⟨hr, (pastInMem_iff s).1 (by simpa [h0, h1] using range)⟩
    | kept same => simp [same.2.1, h0] at h1
    | guarded _ _ _ range _ => simp [range, h0] at h1
    | cleared hr => simp [all_false hr] at h1
  · cases e with
    | guarded hb hr _ _ _ => exact ⟨hb, hr⟩
    | kept same => simp [same.2.2, h0] at h1
    | checked _ _ _ busy => simp [busy, h0] at h1
    | cleared hr => simp [all_false hr] at h1
  · obtain ⟨tooLarge, range, -⟩ := errors_of_runs_pad hr hst
    exact ⟨fun hl => by simp [tooLarge, (lenTooLarge_iff s).2 hl], fun hp => by simp [range, (pastInMem_iff s).2 hp]⟩
  · refine e.clears_or_keeps_set.resolve_right ?_
    rintro ⟨tooLarge, range, busy⟩
    rcases h with ⟨set, clear⟩ | ⟨set, clear⟩ | ⟨set, clear⟩
    · simp [tooLarge set] at clear
    · simp [range set] at clear
    · simp [busy set] at clear

end Sys2Proof.Machine

namespace Sys2Proof.Machine

/-! ### What no step reads -/

/-- An outcome with the unread registers of its next state blanked. -/
def liveOutcome : Host.Outcome State Fault Refusal → Host.Outcome State Fault Refusal
  | .next s => .next s.live
  | .fault f => .fault f
  | .refused r => .refused r

theorem liveOutcome_eq_next_iff {o : Host.Outcome State Fault Refusal} {u : State} :
    liveOutcome o = .next u ↔ ∃ t, o = .next t ∧ t.live = u := by
  cases o <;> simp [liveOutcome]

theorem liveOutcome_eq_fault_iff {o : Host.Outcome State Fault Refusal} {f : Fault} :
    liveOutcome o = .fault f ↔ o = .fault f := by
  cases o <;> simp [liveOutcome]

theorem liveOutcome_eq_refused_iff {o : Host.Outcome State Fault Refusal} {r : Refusal} :
    liveOutcome o = .refused r ↔ o = .refused r := by
  cases o <;> simp [liveOutcome]

/-! ### What is blanked -/

/-- The state with other contents in the registers that `live` may blank, and another counter of free words. -/
def State.withHidden (s : State) (h r : Vector Word 4) (m : Vector Word 16) (k : Nat) : State :=
  { s with h := h, r := r, m := m, freeIdx := k }

/-- H as `live` has it: it is written by START before it is read again after IDLE, DONE and ERROR. -/
def liveH (p : Phase) (h : Vector Word 4) : Vector Word 4 :=
  match p with
  | .idle | .done | .error => #v[0, 0, 0, 0]
  | .padding | .iterLoad | .iterRound | .iterFeed | .finalizing => h

/-- r as `live` has it: LOAD writes it, and the steps and FEED read it. -/
def liveR (p : Phase) (r : Vector Word 4) : Vector Word 4 :=
  match p with
  | .iterRound | .iterFeed => r
  | .idle | .padding | .iterLoad | .finalizing | .done | .error => #v[0, 0, 0, 0]

/-- M as `live` has it: LOAD writes it, and the steps alone read it. -/
def liveM (p : Phase) (m : Vector Word 16) : Vector Word 16 :=
  match p with
  | .iterRound => m
  | .idle | .padding | .iterLoad | .iterFeed | .finalizing | .done | .error => State.reset.m

/-- What `live` blanks, register by register. -/
theorem live_eq_withHidden (s : State) :
    s.live = s.withHidden (liveH s.phase s.h) (liveR s.phase s.r) (liveM s.phase s.m) 0 := by
  unfold State.live
  cases hp : s.phase <;> simp only [State.withHidden, hp] <;> rfl

theorem live_live (s : State) : s.live.live = s.live := by
  rw [live_eq_withHidden s.live, live_eq_withHidden s]
  simp only [State.withHidden]
  cases s.phase <;> rfl

theorem live_busy (s : State) : s.live.busy = s.busy := by
  rw [live_eq_withHidden]
  rfl

/-- `live` leaves what decides about a turn. -/
theorem live_visible (s : State) :
    s.live.moves = s.moves ∧ s.live.microWord = s.microWord ∧ s.live.addrW = s.addrW ∧ s.live.inMem = s.inMem ∧
      ∀ a b, s.live.writeAllowed a b ↔ s.writeAllowed a b := by
  rw [live_eq_withHidden]
  exact ⟨rfl, rfl, rfl, rfl, fun _ _ => .rfl⟩

/-! ### Updates that leave the hidden registers -/

/-- An update that moves no phase and neither reads nor writes H, r, M and the counter of free words. -/
structure LeavesHidden (f : State → State) : Prop where
  phase : ∀ s, (f s).phase = s.phase
  commutes : ∀ s h r m k, f (s.withHidden h r m k) = (f s).withHidden h r m k

theorem LeavesHidden.live_comm {f : State → State} (hf : LeavesHidden f) (s : State) : f s.live = (f s).live := by
  have own : f s = (f s).withHidden s.h s.r s.m s.freeIdx := hf.commutes s s.h s.r s.m s.freeIdx
  have hh : (f s).h = s.h := by rw [own]; rfl
  have hr : (f s).r = s.r := by rw [own]; rfl
  have hm : (f s).m = s.m := by rw [own]; rfl
  rw [live_eq_withHidden, live_eq_withHidden, hf.commutes, hf.phase, hh, hr, hm]

theorem takeTurn_leavesHidden : LeavesHidden State.takeTurn := ⟨fun _ => rfl, fun _ _ _ _ _ => rfl⟩

theorem setInMem_leavesHidden (v : Memory) : LeavesHidden (·.setInMem v) := ⟨fun _ => rfl, fun _ _ _ _ _ => rfl⟩

theorem live_resetCore (s : State) : s.live.resetCore.live = s.resetCore.live := by
  rw [live_eq_withHidden s.live.resetCore, live_eq_withHidden s.resetCore, live_eq_withHidden s]
  simp only [State.withHidden, liveH, liveR, liveM, State.resetCore]

theorem live_acceptStart (s : State) : s.live.acceptStart.live = s.acceptStart.live := by
  rw [live_eq_withHidden s.live.acceptStart, live_eq_withHidden s.acceptStart, live_eq_withHidden s]
  rfl

theorem live_setFreeIdx (s : State) (k : Nat) : (s.setFreeIdx k).live = s.live := by
  rw [live_eq_withHidden, live_eq_withHidden]
  rfl

theorem compressStep_setFreeIdx (s : State) (k : Nat) (fn : Word → Word → Word → Word) (i : BitVec 6) :
    (s.setFreeIdx k).compressStep fn i = (s.compressStep fn i).setFreeIdx k := by
  unfold State.compressStep
  split <;> rfl

/-! ### The host's transactions -/

/-- An operation that is such an update reads nothing hidden. -/
theorem liveOutcome_of_leavesHidden {i : Instr} {s : State} (f : State → State) (hf : LeavesHidden f)
    (hx : exec i s = .next (f s)) (hx' : exec i s.live = .next (f s.live)) :
    liveOutcome (exec i s.live) = liveOutcome (exec i s) := by
  rw [hx, hx', hf.live_comm]
  exact congrArg Host.Outcome.next (live_live _)

/-- A read's word is made of the visible registers, R150 to R158. -/
theorem liveOutcome_read {i : Instr} {s : State} (word : State → Word) (hx : ∀ s, exec i s = .next (s.respond (word s)))
    (hw : ∀ s h r m k, word (s.withHidden h r m k) = word s) : liveOutcome (exec i s.live) = liveOutcome (exec i s) :=
  liveOutcome_of_leavesHidden (fun s => s.respond (word s))
    ⟨fun _ => rfl, fun s h r m k => congrArg (s.withHidden h r m k).respond (hw s h r m k)⟩ (hx s) (hx s.live)

/-- SRC's write is ERR_BUSY's or the operand's, R163. -/
theorem liveOutcome_wrSrc (s : State) (hi : Bool) (data : Word) :
    liveOutcome (exec (.wrSrc hi data) s.live) = liveOutcome (exec (.wrSrc hi data) s) := by
  cases hb : s.busy with
  | true =>
    exact liveOutcome_of_leavesHidden State.noteBusy ⟨fun _ => rfl, fun _ _ _ _ _ => rfl⟩
      (exec_wrSrc_of_busy hi data hb) (exec_wrSrc_of_busy hi data ((live_busy s).trans hb))
  | false =>
    exact liveOutcome_of_leavesHidden
      (fun s => s.setSrc (BitVec.ofNat 64 ((insertHalf hi s.src data).toNat % 2 ^ s.addrW)))
      ⟨fun _ => rfl, fun _ _ _ _ _ => rfl⟩
      (exec_wrSrc_of_not_busy hi data hb) (exec_wrSrc_of_not_busy hi data ((live_busy s).trans hb))

/-- LEN's write is ERR_BUSY's or the operand's, R164. -/
theorem liveOutcome_wrLen (s : State) (hi : Bool) (data : Word) :
    liveOutcome (exec (.wrLen hi data) s.live) = liveOutcome (exec (.wrLen hi data) s) := by
  cases hb : s.busy with
  | true =>
    exact liveOutcome_of_leavesHidden State.noteBusy ⟨fun _ => rfl, fun _ _ _ _ _ => rfl⟩
      (exec_wrLen_of_busy hi data hb) (exec_wrLen_of_busy hi data ((live_busy s).trans hb))
  | false =>
    exact liveOutcome_of_leavesHidden (fun s => s.setLen (insertHalf hi s.len data))
      ⟨fun _ => rfl, fun _ _ _ _ _ => rfl⟩
      (exec_wrLen_of_not_busy hi data hb) (exec_wrLen_of_not_busy hi data ((live_busy s).trans hb))

/-- START writes H before PAD, and LOAD r and M, R160. -/
theorem liveOutcome_wrCtrlStart (s : State) (data : Word) :
    liveOutcome (exec (.wrCtrlStart data) s.live) = liveOutcome (exec (.wrCtrlStart data) s) := by
  have hirq : LeavesHidden fun s => s.setIrqEn (ctrlIrqEn data) := ⟨fun _ => rfl, fun _ _ _ _ _ => rfl⟩
  cases hb : s.busy with
  | true =>
    exact liveOutcome_of_leavesHidden (fun s => (s.setIrqEn (ctrlIrqEn data)).noteBusy)
      ⟨fun _ => rfl, fun _ _ _ _ _ => rfl⟩ (exec_wrCtrlStart_of_busy data hb)
      (exec_wrCtrlStart_of_busy data ((live_busy s).trans hb))
  | false =>
    rw [exec_wrCtrlStart_of_not_busy data hb, exec_wrCtrlStart_of_not_busy data ((live_busy s).trans hb),
      hirq.live_comm]
    exact congrArg Host.Outcome.next (live_acceptStart _)

/-- No transaction reads H, r, M or the counter of free words, but for CLEAR, whose free words are blanked with the counter. -/
theorem liveOutcome_hostOp {i : Instr} (hi : isMicroOp i = false) (s : State) :
    liveOutcome (exec i s.live) = liveOutcome (exec i s) := by
  cases i with
  | rdCtrl => exact liveOutcome_read State.ctrlWord (fun _ => rfl) fun _ _ _ _ _ => rfl
  | rdStatus => exact liveOutcome_read State.statusWord (fun _ => rfl) fun _ _ _ _ _ => rfl
  | rdSrc high => exact liveOutcome_read (half high ·.src) (fun _ => rfl) fun _ _ _ _ _ => rfl
  | rdLen high => exact liveOutcome_read (half high ·.len) (fun _ => rfl) fun _ _ _ _ _ => rfl
  | rdNblk high => exact liveOutcome_read (half high ·.nblk) (fun _ => rfl) fun _ _ _ _ _ => rfl
  | rdBlk high => exact liveOutcome_read (half high ·.blk) (fun _ => rfl) fun _ _ _ _ _ => rfl
  | rdStep => exact liveOutcome_read (·.step.setWidth 32) (fun _ => rfl) fun _ _ _ _ _ => rfl
  | rdRsvd => exact liveOutcome_read (fun _ => 0) (fun _ => rfl) fun _ _ _ _ _ => rfl
  | rdDigest n => exact liveOutcome_read (·.digest[n.toNat]) (fun _ => rfl) fun _ _ _ _ _ => rfl
  | wrCtrlClear data => exact congrArg Host.Outcome.next (live_resetCore s)
  | wrCtrlStart data => exact liveOutcome_wrCtrlStart s data
  | wrCtrlCfg data =>
    exact liveOutcome_of_leavesHidden (fun s => s.setIrqEn (ctrlIrqEn data)) ⟨fun _ => rfl, fun _ _ _ _ _ => rfl⟩ rfl rfl
  | wrSrc high data => exact liveOutcome_wrSrc s high data
  | wrLen high data => exact liveOutcome_wrLen s high data
  | wrStatus _ | wrStep _ | wrRsvd _ => exact congrArg Host.Outcome.next (live_live s)
  | wrNblk _ _ | wrBlk _ _ | wrDigest _ _ => exact congrArg Host.Outcome.next (live_live s)
  | pad | load | feed | final => cases hi
  | stepF _ | stepG _ | stepH _ | stepI _ => cases hi

/-! ### The micro-ops -/

/-- r and M are written before they are read in the phases that a LOAD, or nothing, follows. -/
theorem live_of_r_and_m_unread {s : State} (hp : s.phase = .padding ∨ s.phase = .iterLoad ∨ s.phase = .finalizing) :
    s.live = { s with r := #v[0, 0, 0, 0], m := State.reset.m, freeIdx := 0 } := by
  rcases hp with e | e | e <;> simp only [State.live, e]

theorem live_of_iterRound {s : State} (hp : s.phase = .iterRound) : s.live = { s with freeIdx := 0 } := by
  simp only [State.live, hp]

/-- FEED reads H and r alone. -/
theorem live_of_iterFeed {s : State} (hp : s.phase = .iterFeed) :
    s.live = { s with m := State.reset.m, freeIdx := 0 } := by
  simp only [State.live, hp]

theorem liveOutcome_pad {s : State} (hp : s.phase = .padding) : liveOutcome (exec .pad s.live) = liveOutcome (exec .pad s) := by
  rw [live_of_r_and_m_unread (.inl hp)]
  by_cases ha : s.admits
  · rw [exec_pad_of_admits ha, exec_pad_of_admits (by exact ha)]
    rfl
  · rw [exec_pad_of_not_admits ha, exec_pad_of_not_admits (by exact ha)]
    rfl

theorem liveOutcome_load {s : State} (hp : s.phase = .iterLoad) :
    liveOutcome (exec .load s.live) = liveOutcome (exec .load s) := by
  rw [live_of_r_and_m_unread (.inr (.inl hp))]
  show liveOutcome (execLoad _) = liveOutcome (execLoad _)
  unfold execLoad
  dsimp only
  split
  · change liveOutcome (if s.blockInMem s.blk.toNat = true then _ else _) = _
    split <;> rfl
  · rfl

theorem liveOutcome_stepOpAt {s : State} (hp : s.phase = .iterRound) (i : BitVec 6) :
    liveOutcome (exec (stepOpAt i) s.live) = liveOutcome (exec (stepOpAt i) s) := by
  have hl : s.live = s.setFreeIdx 0 := live_of_iterRound hp
  rw [hl, exec_stepOpAt, exec_stepOpAt, compressStep_setFreeIdx]
  simp only [liveOutcome, live_setFreeIdx]

theorem liveOutcome_feed {s : State} (hp : s.phase = .iterFeed) :
    liveOutcome (exec .feed s.live) = liveOutcome (exec .feed s) := by
  rw [live_of_iterFeed hp, exec_feed, exec_feed]
  unfold State.fed
  dsimp only
  split <;> rfl

theorem liveOutcome_final {s : State} (hp : s.phase = .finalizing) :
    liveOutcome (exec .final s.live) = liveOutcome (exec .final s) := by
  rw [live_of_r_and_m_unread (.inr (.inr hp)), exec_final, exec_final]
  rfl

/-- The micro-op of a phase reads no register that `live` blanks there. -/
theorem liveOutcome_microOp {s : State} {i : Instr} (hi : decodeMicro s.microWord = some i) :
    liveOutcome (exec i s.live) = liveOutcome (exec i s) := by
  rw [decodeMicro_microWord] at hi
  cases hp : s.phase <;> simp only [hp] at hi <;> cases hi
  case padding => exact liveOutcome_pad hp
  case iterLoad => exact liveOutcome_load hp
  case iterRound => exact liveOutcome_stepOpAt hp s.step
  case iterFeed => exact liveOutcome_feed hp
  case finalizing => exact liveOutcome_final hp

/-- A step from the blanked state is the step from the state, up to what `live` blanks. -/
theorem liveOutcome_step (s : State) : liveOutcome (step s.live) = liveOutcome (step s) := by
  obtain ⟨hmoves, hword, haddrW, hmem, hallowed⟩ := live_visible s
  have core : s.coreIsNext → liveOutcome (step s.live) = liveOutcome (step s) := by
    intro hc
    have hc' : s.live.coreIsNext := by rwa [State.coreIsNext, hmoves]
    cases hd : decodeMicro s.microWord with
    | none =>
      rw [step_core_idle hc hd, step_core_idle hc' (hword ▸ hd), takeTurn_leavesHidden.live_comm]
      exact congrArg Host.Outcome.next (live_live _)
    | some i =>
      rw [step_core hc hd, step_core hc' (hword ▸ hd), takeTurn_leavesHidden.live_comm]
      exact liveOutcome_microOp hd
  cases hm : s.moves.head? with
  | none => exact core (.inl hm)
  | some m =>
    have hm' : s.live.moves.head? = some m := hmoves ▸ hm
    cases m with
    | core => exact core (.inr hm)
    | bus req =>
      by_cases hr : req.width = 32 ∧ ∃ i, decodeDesc req.desc = some i
      · obtain ⟨hw, i, hi⟩ := hr
        rw [step_bus hm hw hi, step_bus hm' hw hi, takeTurn_leavesHidden.live_comm]
        exact liveOutcome_hostOp (isMicroOp_of_decodeDesc hi) _
      · have hr : req.width = 32 → decodeDesc req.desc = none := by
          intro hw
          rw [Option.eq_none_iff_forall_ne_some]
          exact fun i hi => hr ⟨hw, i, hi⟩
        rw [step_bus_refused hm hr, step_bus_refused hm' hr]
    | rst =>
      rw [step_rst hm, step_rst hm', takeTurn_leavesHidden.live_comm]
      exact congrArg Host.Outcome.next (live_resetCore _)
    | memWrite a b =>
      obtain ⟨next, refused, fault⟩ := step_memWrite hm
      obtain ⟨next', refused', fault'⟩ := step_memWrite hm'
      rw [haddrW, hallowed] at next' refused'
      rw [haddrW] at fault'
      by_cases ha : a < 2 ^ s.addrW
      · by_cases hb : s.writeAllowed a b
        · rw [next ha hb, next' ha hb, takeTurn_leavesHidden.live_comm, hmem]
          exact congrArg Host.Outcome.next (by rw [(setInMem_leavesHidden _).live_comm, live_live])
        · rw [refused ha hb, refused' ha hb]
      · rw [fault ha, fault' ha]

/-- Settles O51: both steps are, up to `live`, the step from the one blanked state. -/
theorem unspecifiedRegistersAreNeverRead : Obligations.UnspecifiedRegistersAreNeverRead := by
  unfold Obligations.UnspecifiedRegistersAreNeverRead
  intro s t hlive
  have same : liveOutcome (step s) = liveOutcome (step t) := by
    rw [← liveOutcome_step s, hlive, liveOutcome_step]
  refine ⟨fun s' h => ?_, fun f h => ?_, fun r h => ?_⟩
  · have hs := liveOutcome_eq_next_iff.2 ⟨s', h, rfl⟩
    obtain ⟨t', ht, hl⟩ := liveOutcome_eq_next_iff.1 (same ▸ hs)
    exact ⟨t', ht, hl.symm⟩
  · exact liveOutcome_eq_fault_iff.1 (same ▸ liveOutcome_eq_fault_iff.2 h)
  · exact liveOutcome_eq_refused_iff.1 (same ▸ liveOutcome_eq_refused_iff.2 h)

end Sys2Proof.Machine

namespace Sys2Proof.Machine

/-! ### What a step does to InMem -/

/-- The write's condition as R72's duty: while BUSY a message byte is written with the value it has. -/
theorem writeAllowed_iff {s : State} {a : Nat} {b : Byte} :
    s.writeAllowed a b ↔ (s.busy = true → s.isMessageByte a = true → s.memRead a = b) := by
  simp [State.writeAllowed, imp_iff_not_or, or_assoc]

/-- The byte written reads as written, R60. -/
theorem State.Inv.read_write_same {s : State} (h : s.Inv) (a : Nat) (b : Byte) :
    Memory.read (Memory.write s.inMem a b) a = b :=
  Memory.read_write_same (lo := 0) h.inMem_wf a b

/-- Every other byte reads as before, R60. -/
theorem State.Inv.read_write_other {s : State} (h : s.Inv) {a x : Nat} (b : Byte) (hx : x ≠ a) :
    Memory.read (Memory.write s.inMem a b) x = s.memRead x :=
  Memory.read_write_other (lo := 0) h.inMem_wf b hx

namespace HostEffect

variable {s t : State} {i : Instr}

/-- No transaction stores to InMem, CLEAR among them, R62. -/
theorem same_addrW_and_inMem (e : HostEffect s i t) : t.addrW = s.addrW ∧ t.inMem = s.inMem := by
  cases e <;> exact ⟨rfl, rfl⟩

/-- While BUSY the operands keep their values, R204; a CLEAR ends BUSY. -/
theorem same_operands_of_busy (e : HostEffect s i t) (hs : s.busy = true) (ht : t.busy = true) : SameOperands s t := by
  cases e with
  | answers | startIgnored | configures | srcIgnored | lenIgnored | ignored => exact ⟨rfl, rfl⟩
  | clears => exact absurd ht Bool.false_ne_true
  | startAccepted _ hb | srcWritten _ _ hb | lenWritten _ _ hb => exact absurd (hs.symm.trans hb) (by decide)

end HostEffect

/-- InMem after a step: as before, or with the byte of the host's write in it; ADDR_W is always as before. -/
theorem step_inMem_cases {s t : State} (hst : step s = .next t) :
    t.addrW = s.addrW ∧
      (t.inMem = s.inMem ∨ ∃ a b, s.moves.head? = some (.memWrite a b) ∧ s.writeAllowed a b ∧
        t.inMem = Memory.write s.inMem a b) := by
  rcases step_cases hst with ⟨i, -, hi, hx⟩ | ⟨-, -, rfl⟩ | ⟨req, i, -, -, hi, hx⟩ | ⟨-, rfl⟩ | ⟨a, b, hm, -, hw, rfl⟩
  · have e := microEffect_of_exec (isMicroOp_of_decodeMicro hi) hx
    exact ⟨e.same_setting.1.1, .inl e.same_inMem⟩
  · exact ⟨rfl, .inl rfl⟩
  · obtain ⟨addrW, inMem⟩ := (hostEffect_of_exec (isMicroOp_of_decodeDesc hi) hx).same_addrW_and_inMem
    exact ⟨addrW, .inl inMem⟩
  · exact ⟨rfl, .inl rfl⟩
  · exact ⟨rfl, .inr ⟨a, b, hm, hw, rfl⟩⟩

/-- Settles O43: `step_inMem_cases`, whose second case is the host's write. -/
theorem coreAndBusNeverWriteInMem : Obligations.CoreAndBusNeverWriteInMem := by
  unfold Obligations.CoreAndBusNeverWriteInMem
  intro s t hst
  obtain ⟨addrW, inMem⟩ := step_inMem_cases hst
  exact ⟨addrW, fun noWrite => inMem.resolve_right fun ⟨a, b, hm, _⟩ => noWrite a b hm⟩

/-- Settles O8: R72's duty is the write's condition, and the state written differs in the byte alone. -/
theorem hostFillsInMem : Obligations.HostFillsInMem := by
  unfold Obligations.HostFillsInMem
  intro s a b h hm ha duty
  obtain ⟨written, -⟩ := step_memWrite hm
  exact ⟨_, written ha (writeAllowed_iff.2 duty), h.read_write_same a b, fun x hx => h.read_write_other b hx, rfl⟩

/-! ### The message while BUSY -/

/-- The message is what SRC and LEN name and the message bytes read as, R60. -/
theorem message_eq_of_same_bytes {s t : State} (operands : SameOperands s t)
    (bytes : ∀ a, s.isMessageByte a = true → t.memRead a = s.memRead a) : t.message = s.message := by
  obtain ⟨src, len⟩ := operands
  simp only [State.message, src, len]
  refine List.map_congr_left fun n hn => bytes _ ?_
  have hn : n < s.len.toNat := List.mem_range.1 hn
  simp [State.isMessageByte, hn]

/-- A step that leaves the core BUSY keeps SRC and LEN, R204. -/
theorem step_same_operands_of_busy {s t : State} (hst : step s = .next t) (hs : s.busy = true) (ht : t.busy = true) :
    SameOperands s t := by
  rcases step_cases hst with ⟨i, -, hi, hx⟩ | ⟨-, -, rfl⟩ | ⟨req, i, -, -, hi, hx⟩ | ⟨-, rfl⟩ | ⟨a, b, -, -, -, rfl⟩
  · exact (microEffect_of_exec (isMicroOp_of_decodeMicro hi) hx).same_operands
  · exact ⟨rfl, rfl⟩
  · exact (hostEffect_of_exec (isMicroOp_of_decodeDesc hi) hx).same_operands_of_busy hs ht
  · exact absurd ht Bool.false_ne_true
  · exact ⟨rfl, rfl⟩

/-- A step from a BUSY core keeps every message byte: the host's write of one writes the value it has, R72. -/
theorem step_same_message_bytes_of_busy {s t : State} (h : s.Inv) (hst : step s = .next t) (hs : s.busy = true) (x : Nat)
    (hx : s.isMessageByte x = true) : t.memRead x = s.memRead x := by
  obtain ⟨-, inMem | ⟨a, b, -, allowed, inMem⟩⟩ := step_inMem_cases hst <;> rw [State.memRead, inMem]
  · rfl
  · by_cases hxa : x = a
    · subst hxa
      exact (h.read_write_same x b).trans (writeAllowed_iff.1 allowed hs hx).symm
    · exact h.read_write_other b hxa

/-- Settles O50: SRC and LEN are kept, and with them every message byte. -/
theorem messageIsFixedWhileBusy : Obligations.MessageIsFixedWhileBusy := by
  unfold Obligations.MessageIsFixedWhileBusy
  intro s t h hst hs ht
  have operands := step_same_operands_of_busy hst hs ht
  exact ⟨operands, message_eq_of_same_bytes operands (step_same_message_bytes_of_busy h hst hs)⟩

/-! ### The decoded operation and the reads -/

/-- Settles O6: the core's turn and the transaction's, each with `takeTurn` written out. -/
theorem stepRunsTheDecodedOperation : Obligations.StepRunsTheDecodedOperation := by
  unfold Obligations.StepRunsTheDecodedOperation
  exact fun s i => ⟨fun hc hi => step_core hc hi, fun d hd hi => step_bus hd rfl hi⟩

/-- A read answers a word that does not depend on the answer standing on bus_rdata, R68. -/
theorem exec_read {i : Instr} (hi : isRead i = true) (s : State) :
    ∃ w, exec i s = .next (s.respond w) ∧ ∀ v, exec i (s.respond v) = .next (s.respond w) := by
  cases i with
  | rdCtrl | rdStatus | rdStep | rdRsvd => exact ⟨_, rfl, fun _ => rfl⟩
  | rdSrc _ | rdLen _ | rdNblk _ | rdBlk _ | rdDigest _ => exact ⟨_, rfl, fun _ => rfl⟩
  | _ => cases hi

/-- Settles O17: `respond` touches bus_rdata alone, and the read repeated answers the same word. -/
theorem readsChangeNothingAndRepeat : Obligations.ReadsChangeNothingAndRepeat := by
  unfold Obligations.ReadsChangeNothingAndRepeat
  intro i s hi
  obtain ⟨w, answer, again⟩ := exec_read hi s
  exact ⟨s.respond w, w, answer, rfl, ⟨rfl, rfl, rfl, rfl⟩, ⟨rfl, rfl⟩, rfl, ⟨rfl, rfl, rfl⟩, rfl, ⟨rfl, rfl, rfl⟩,
    fun _ => rfl, ⟨rfl, rfl, rfl⟩, again w⟩

end Sys2Proof.Machine

namespace Sys2Proof.Machine

/-! ### At most one row applies to a word -/

/-- Two rows that differ in a bit both masks look at apply to no common word. -/
theorem pattern_ne_of_disagree {n : Nat} {w m₁ p₁ m₂ p₂ : BitVec n} (h : p₁ &&& m₂ ≠ p₂ &&& m₁) (h₁ : w &&& m₁ = p₁) :
    w &&& m₂ ≠ p₂ := by
  rintro rfl
  exact h (by rw [← h₁, BitVec.and_assoc, BitVec.and_assoc, BitVec.and_comm m₁])

theorem filter_length_le_one {α : Type} {p : α → Bool} {l : List α} (h : l.Pairwise fun a b => p a = true → ¬ p b = true) :
    (l.filter p).length ≤ 1 := by
  have hf : (l.filter p).Pairwise fun _ _ => False := List.pairwise_filter.2 h
  match l.filter p, hf with
  | [], _ | [_], _ => simp
  | _ :: _ :: _, hf => exact (List.rel_of_pairwise_cons hf List.mem_cons_self).elim

theorem filter_eq_singleton {α : Type} {p : α → Bool} {l : List α} {a : α} (h : (l.filter p).length ≤ 1)
    (ha : a ∈ l.filter p) : l.filter p = [a] := by
  obtain ⟨b, hb⟩ := List.length_eq_one_iff.1 (h.antisymm (List.length_pos_of_mem ha))
  obtain rfl : a = b := List.mem_singleton.1 (hb ▸ ha)
  exact hb

/-- Where at most one element meets `p`, `find?` finds the one that does. -/
theorem find?_eq_some_of_unique {α : Type} {p : α → Bool} {l : List α} {a : α} (h : (l.filter p).length ≤ 1) (ha : a ∈ l)
    (hp : p a = true) : l.find? p = some a := by
  rw [← List.head?_filter, filter_eq_singleton h (List.mem_filter.2 ⟨ha, hp⟩), List.head?_cons]

/-- In a table whose rows disagree pairwise in a bit of both masks, at most one row applies to a word. -/
theorem applies_unique {α : Type} {n : Nat} {mask pattern : α → BitVec n} {table : List α}
    (disagree : table.Pairwise fun a b => pattern a &&& mask b ≠ pattern b &&& mask a) (w : BitVec n) :
    (table.filter fun row => w &&& mask row == pattern row).length ≤ 1 :=
  filter_length_le_one (disagree.imp fun h ha hb => pattern_ne_of_disagree h (beq_iff_eq.1 ha) (beq_iff_eq.1 hb))

/-- No descriptor matches two rows of R82. -/
theorem descTable_unique (d : Desc) : (descTable.filter fun row => row.applies d).length ≤ 1 :=
  applies_unique (mask := DescRow.mask) (pattern := DescRow.pattern) (by decide) d

/-- No micro-op word matches two rows of R86. -/
theorem microTable_unique (w : MicroWord) : (microTable.filter fun row => row.applies w).length ≤ 1 :=
  applies_unique (mask := MicroRow.mask) (pattern := MicroRow.pattern) (by decide) w

/-! ### The decode by the row that applies -/

theorem decodeDesc_of_applies {row : DescRow} {d : Desc} (hrow : row ∈ descTable) (h : row.applies d = true) :
    decodeDesc d = some (row.build d) := by
  rw [decodeDesc, find?_eq_some_of_unique (descTable_unique d) hrow h, Option.map_some]

theorem decodeMicro_of_applies {row : MicroRow} {w : MicroWord} (hrow : row ∈ microTable) (h : row.applies w = true) :
    decodeMicro w = some (row.build w) := by
  rw [decodeMicro, find?_eq_some_of_unique (microTable_unique w) hrow h, Option.map_some]

/-- The word of every operation is matched by the row that builds the operation, R82 and R86. -/
theorem rowMatch (i : Instr) : Laws.RowMatch.Statement i := by
  cases i with
  | rdCtrl => exact Laws.RowMatch.rdCtrl
  | rdStatus => exact Laws.RowMatch.rdStatus
  | rdSrc hi => exact Laws.RowMatch.rdSrc hi
  | rdLen hi => exact Laws.RowMatch.rdLen hi
  | rdNblk hi => exact Laws.RowMatch.rdNblk hi
  | rdBlk hi => exact Laws.RowMatch.rdBlk hi
  | rdStep => exact Laws.RowMatch.rdStep
  | rdRsvd => exact Laws.RowMatch.rdRsvd
  | rdDigest n => exact Laws.RowMatch.rdDigest n
  | wrCtrlClear data => exact Laws.RowMatch.wrCtrlClear data
  | wrCtrlStart data => exact Laws.RowMatch.wrCtrlStart data
  | wrCtrlCfg data => exact Laws.RowMatch.wrCtrlCfg data
  | wrStatus data => exact Laws.RowMatch.wrStatus data
  | wrSrc hi data => exact Laws.RowMatch.wrSrc hi data
  | wrLen hi data => exact Laws.RowMatch.wrLen hi data
  | wrNblk hi data => exact Laws.RowMatch.wrNblk hi data
  | wrBlk hi data => exact Laws.RowMatch.wrBlk hi data
  | wrStep data => exact Laws.RowMatch.wrStep data
  | wrRsvd data => exact Laws.RowMatch.wrRsvd data
  | wrDigest n data => exact Laws.RowMatch.wrDigest n data
  | pad => exact Laws.RowMatch.pad
  | load => exact Laws.RowMatch.load
  | stepF j => exact Laws.RowMatch.stepF j
  | stepG j => exact Laws.RowMatch.stepG j
  | stepH j => exact Laws.RowMatch.stepH j
  | stepI j => exact Laws.RowMatch.stepI j
  | feed => exact Laws.RowMatch.feed
  | final => exact Laws.RowMatch.final

/-- Settles O2: the row that builds the operation back applies to its word, and the decode is by the row that applies. -/
theorem decodeOfEncodeIsTheOperation : Obligations.DecodeOfEncodeIsTheOperation := by
  unfold Obligations.DecodeOfEncodeIsTheOperation
  intro i wf
  have hmatch := rowMatch i wf
  cases henc : encode i with
  | desc d =>
    simp only [henc] at hmatch
    obtain ⟨row, hrow, happ, hbuild⟩ := hmatch
    exact hbuild ▸ decodeDesc_of_applies hrow happ
  | micro w =>
    simp only [henc] at hmatch
    obtain ⟨row, hrow, happ, hbuild⟩ := hmatch
    exact hbuild ▸ decodeMicro_of_applies hrow happ

/-! ### The legal descriptors -/

/-- DATA selects among the CTRL writes, but makes no access illegal. -/
theorem opOfHeader_isNone_congr (header : BitVec 8) (data data' : Word) :
    (opOfHeader header data).isNone = (opOfHeader header data').isNone := by
  unfold opOfHeader
  split <;> simp only [apply_ite Option.isNone, Option.isNone_some, ite_self]

/-- A header is illegal when Z = 1 or ADDR[1:0] ≠ 0, R83. -/
theorem opOfHeader_eq_none_iff (header : BitVec 8) (data : Word) :
    opOfHeader header data = none ↔ header.getLsbD 6 = true ∨ header.extractLsb' 0 2 ≠ 0 := by
  rw [← Option.isNone_iff_eq_none, opOfHeader_isNone_congr header data 0]
  revert header
  decide

/-- Illegal are exactly the descriptors with Z = 1 or ADDR[1:0] ≠ 0, R83. -/
theorem decodeDesc_eq_none_iff (d : Desc) : decodeDesc d = none ↔ d.getLsbD 38 = true ∨ d.extractLsb' 32 2 ≠ 0 := by
  have hz : (descHeader d).getLsbD 6 = d.getLsbD 38 := by simp [descHeader]
  have hlow : (descHeader d).extractLsb' 0 2 = d.extractLsb' 32 2 := by
    apply BitVec.eq_of_getLsbD_eq
    intro k hk
    simp [hk, show k < 8 by omega]
  rw [decodeDesc_eq, opOfHeader_eq_none_iff, hz, hlow]

/-- An operation decoded is well-formed: DATA[1:0] tells the CTRL writes apart, R84. -/
theorem wellFormed_of_decodeDesc {d : Desc} {i : Instr} (h : decodeDesc d = some i) : i.wellFormed = true := by
  rw [decodeDesc_eq] at h
  unfold opOfHeader at h
  split at h
  -- offset 0 of a write, the one header that spells more than one operation
  case h_17 =>
    cases h1 : (descData d).getLsbD 1 <;> cases h0 : (descData d).getLsbD 0 <;> rw [h1, h0] at h <;> cases h <;>
      simp only [Instr.wellFormed, h1, h0, Bool.not_false, Bool.and_self]
  all_goals cases h
  all_goals rfl

theorem exists_decodeDesc {d : Desc} (hz : d.getLsbD 38 = false) (hlow : d.extractLsb' 32 2 = 0) :
    ∃ i, decodeDesc d = some i := by
  rw [← Option.ne_none_iff_exists', Ne, decodeDesc_eq_none_iff]
  exact not_or.2 ⟨Bool.not_eq_true _ ▸ hz, not_not_intro hlow⟩

/-- Settles O3: the decode of a legal descriptor is by some row, and no other applies. -/
theorem legalDescriptorMatchesExactlyOneRow : Obligations.LegalDescriptorMatchesExactlyOneRow := by
  unfold Obligations.LegalDescriptorMatchesExactlyOneRow
  refine ⟨rfl, fun d hz hlow => ?_⟩
  obtain ⟨i, hi⟩ := exists_decodeDesc hz hlow
  obtain ⟨row, hfind, rfl⟩ := Option.map_eq_some_iff.1 hi
  have hrow : row ∈ descTable.filter fun row => row.applies d :=
    List.mem_filter.2 ⟨List.mem_of_find?_eq_some hfind, List.find?_some (p := (DescRow.applies · d)) hfind⟩
  exact ⟨row, filter_eq_singleton (descTable_unique d) hrow, hi, wellFormed_of_decodeDesc hi⟩

/-- Settles O5: `decodeDesc_eq_none_iff`; the turn of an illegal access is refused, and every host transaction completes. -/
theorem busAdmitsExactlyAlignedWordAccesses : Obligations.BusAdmitsExactlyAlignedWordAccesses := by
  unfold Obligations.BusAdmitsExactlyAlignedWordAccesses
  refine ⟨decodeDesc_eq_none_iff, fun s req hnext => ⟨fun illegal => ?_, fun hw hz hlow => ?_⟩⟩
  · exact step_bus_refused hnext fun hw => (decodeDesc_eq_none_iff _).2 (illegal.resolve_left (not_not_intro hw))
  · obtain ⟨i, hi⟩ := exists_decodeDesc hz hlow
    obtain ⟨t, ht, -⟩ := exec_hostOp (isMicroOp_of_decodeDesc hi) s.takeTurn
    exact ⟨t, (step_bus hnext hw hi).trans ht⟩

/-! ### The rows, written out -/

/-- Settles O1: each word is evaluated. -/
theorem knownWordsDecode : Obligations.KnownWordsDecode := by
  unfold Obligations.KnownWordsDecode
  decide

/-- Settles O4: each row of `microTable` decodes the words it applies to, and `microTable_unique`. -/
theorem microOpWordsDecodeByTheirRows : Obligations.MicroOpWordsDecodeByTheirRows := by
  unfold Obligations.MicroOpWordsDecodeByTheirRows
  have row (k : Fin 8) (w : MicroWord) (h : w &&& microTable[k].mask = microTable[k].pattern) :
      decodeMicro w = some (microTable[k].build w) :=
    decodeMicro_of_applies (List.getElem_mem k.isLt) (beq_iff_eq.2 h)
  exact ⟨row 0, row 1, row 2, row 3, row 4, row 5, row 6, row 7, microTable_unique⟩

/-! ### The quiescent phases -/

/-- A micro-op word is {PHASE, STEP} of a sequencer's position, R85. -/
theorem exists_microWord_eq (w : MicroWord) : ∃ s : State, s.microWord = w := by
  refine ⟨(State.reset.setPhase (Phase.ofCode (w.extractLsb' 6 3))).setStep (w.extractLsb' 0 6), ?_⟩
  simp only [State.microWord, setStep_phase, setPhase_phase, Phase.code_ofCode, setStep_step]
  exact (BitVec.extractLsb'_append_extractLsb'_eq_extractLsb' (start₁ := 0) (by rfl)).trans BitVec.extractLsb'_eq_self

/-- The core has no micro-op in IDLE, DONE and ERROR, R87. -/
theorem decodeMicro_microWord_eq_none_iff (s : State) :
    decodeMicro s.microWord = none ↔ s.phase = .idle ∨ s.phase = .done ∨ s.phase = .error := by
  rw [decodeMicro_microWord]
  cases s.phase <;> simp

theorem Phase.quiescent_iff_code (p : Phase) :
    (p = .idle ∨ p = .done ∨ p = .error) ↔ p.code = 0 ∨ p.code = 6 ∨ p.code = 7 := by
  cases p <;> decide

/-- Settles O7: every word is that of a position, whose phase decides, and a turn without a micro-op waits. -/
theorem quiescentCoreWaits : Obligations.QuiescentCoreWaits := by
  unfold Obligations.QuiescentCoreWaits
  refine ⟨fun w => ?_, fun s hc hp => step_core_idle hc ((decodeMicro_microWord_eq_none_iff s).2 hp)⟩
  obtain ⟨s, rfl⟩ := exists_microWord_eq w
  rw [State.microWord_phase, decodeMicro_microWord_eq_none_iff, Phase.quiescent_iff_code]

end Sys2Proof.Machine

namespace Sys2Proof.Machine

/-! ### The step table -/

/-- k(i) in the four rounds, R88. -/
theorem romK_closed_form (j : BitVec 4) :
    (romK (0#2 ++ j)).toNat = j.toNat ∧ (romK (1#2 ++ j)).toNat = (1 + 5 * (16 + j.toNat)) % 16 ∧
    (romK (2#2 ++ j)).toNat = (5 + 3 * (32 + j.toNat)) % 16 ∧ (romK (3#2 ++ j)).toNat = 7 * (48 + j.toNat) % 16 := by
  revert j; decide

/-- The factors 1, 5, 3 and 7 of k's closed forms are odd, so k names no message word twice in a round. -/
theorem romK_injective (round : BitVec 2) : Function.Injective fun j : BitVec 4 => romK (round ++ j) := by
  have rounds : ∀ round : BitVec 2, round = 0#2 ∨ round = 1#2 ∨ round = 2#2 ∨ round = 3#2 := by decide
  intro j j' h
  have h : (romK (round ++ j)).toNat = (romK (round ++ j')).toNat := congrArg BitVec.toNat h
  obtain ⟨k0, k1, k2, k3⟩ := romK_closed_form j
  obtain ⟨k0', k1', k2', k3'⟩ := romK_closed_form j'
  apply BitVec.eq_of_toNat_eq
  rcases rounds round with rfl | rfl | rfl | rfl
  · omega
  · omega
  · omega
  · omega

/-- Within a round k takes each of 0 to 15, R88. -/
theorem romK_surjective (round : BitVec 2) : Function.Surjective fun j : BitVec 4 => romK (round ++ j) :=
  have : Finite (BitVec 4) := .of_equiv _ BitVec.equivFin.symm.toEquiv
  Finite.injective_iff_surjective.1 (romK_injective round)

/-- The table S of rotation amounts, R88. -/
theorem romS_closed_form (j : BitVec 4) :
    [romS (0#2 ++ j), romS (1#2 ++ j), romS (2#2 ++ j), romS (3#2 ++ j)] =
      match j.toNat % 4 with
      | 0 => [7, 5, 4, 6]
      | 1 => [12, 9, 11, 10]
      | 2 => [17, 14, 16, 15]
      | _ => [22, 20, 23, 21] := by
  revert j; decide

theorem romS_bounds (i : BitVec 6) : 4 ≤ romS i ∧ romS i ≤ 23 := by
  revert i; decide

/-- Settles O33: k's closed forms make it a permutation in each round; S and T are the table's columns. -/
theorem stepTableFollowsItsClosedForms : Obligations.StepTableFollowsItsClosedForms := by
  unfold Obligations.StepTableFollowsItsClosedForms
  refine ⟨romK_closed_form, romS_closed_form, romS_bounds, ⟨rfl, rfl, rfl, rfl⟩, rfl, rfl, rfl, rfl, fun round k => ?_⟩
  obtain ⟨j, hj⟩ := romK_surjective round k
  exact ⟨j, hj, fun j' hj' => romK_injective round (hj'.trans hj.symm)⟩

end Sys2Proof.Machine

namespace Sys2Proof.Machine

/-! ### PAD -/

/-- A micro-op word is that of a sequencer's position in the phase its PHASE field codes, R85. -/
theorem exists_microWord_eq_of_phase {w : MicroWord} {p : Phase} (h : w.extractLsb' 6 3 = p.code) :
    ∃ s : State, s.microWord = w ∧ s.phase = p := by
  obtain ⟨s, rfl⟩ := exists_microWord_eq w
  exact ⟨s, rfl, Phase.code_injective (s.microWord_phase.symm.trans h)⟩

theorem decodeMicro_of_padding {w : MicroWord} (h : w.extractLsb' 6 3 = Phase.code .padding) : decodeMicro w = some .pad := by
  obtain ⟨s, rfl, hp⟩ := exists_microWord_eq_of_phase h
  rw [decodeMicro_microWord, hp]

/-- Settles O26: a message is admitted exactly when it passes both checks, and PAD counts the blocks of an admitted one. -/
theorem padChecksTheInputAndCountsBlocks : Obligations.PadChecksTheInputAndCountsBlocks := by
  unfold Obligations.PadChecksTheInputAndCountsBlocks
  refine ⟨fun w => decodeMicro_of_padding, fun s => ⟨fun failed => ?_, fun hlen hrange => ?_⟩⟩
  · have rejected : ¬ s.admits := fun ⟨hlen, hrange⟩ => failed.elim hlen.not_ge hrange.not_gt
    exact exec_pad_of_not_admits rejected
  · exact ⟨BitVec.ofNat 64 (blockCount s.len.toNat), blockCount_toNat hlen, exec_pad_of_admits ⟨hlen, hrange⟩⟩

/-! ### The padded message's bytes -/

@[simp] theorem length_le64Bytes (v : Nat) : (le64Bytes v).length = 8 := by
  simp [le64Bytes]

/-- The trailer of R92 is that of R101. -/
theorem le64Bytes_getElem? (l : Nat) {k : Nat} (hk : k < 8) : (le64Bytes (8 * l))[k]? = some (trailerByte l k) := by
  simp [le64Bytes, trailerByte, hk]

@[simp] theorem length_message (s : State) : s.message.length = s.len.toNat := by
  simp [State.message]

theorem message_getElem? (s : State) {n : Nat} (h : n < s.len.toNat) : s.message[n]? = some (s.memRead (s.src.toNat + n)) := by
  simp [State.message, h]

section
variable (msg : List Byte) {n : Nat}

theorem length_paddedMessage : (paddedMessage msg).length = paddedLength msg.length := by
  have := paddedLength_ge msg.length
  simp only [paddedMessage, List.length_append, List.length_singleton, List.length_replicate, length_le64Bytes]
  omega

/-- The message comes first, R92. -/
theorem paddedMessage_message (h : n < msg.length) : (paddedMessage msg)[n]? = msg[n]? := by
  rw [paddedMessage, List.append_assoc, List.append_assoc, List.getElem?_append_left h]

/-- 0x80 follows the message, R92. -/
theorem paddedMessage_marker : (paddedMessage msg)[msg.length]? = some 0x80 := by
  simp [paddedMessage]

/-- Zeros stand between 0x80 and the trailer, R92. -/
theorem paddedMessage_zero (hl : msg.length < n) (hn : n < paddedLength msg.length - 8) : (paddedMessage msg)[n]? = some 0 := by
  have prefixed : (msg ++ [0x80]).length = msg.length + 1 := by simp
  rw [paddedMessage, List.getElem?_append_left (by simp only [List.length_append, prefixed, List.length_replicate]; omega),
    List.getElem?_append_right (by omega), List.getElem?_replicate, if_pos (by omega)]

/-- The last eight bytes are the trailer, R92. -/
theorem paddedMessage_trailer (hl : paddedLength msg.length - 8 ≤ n) (hn : n < paddedLength msg.length) :
    (paddedMessage msg)[n]? = some (trailerByte msg.length (n - (paddedLength msg.length - 8))) := by
  have := paddedLength_ge msg.length
  have prefixed : (msg ++ [0x80] ++ List.replicate (paddedLength msg.length - msg.length - 9) 0).length =
      paddedLength msg.length - 8 := by
    simp only [List.length_append, List.length_singleton, List.length_replicate]
    omega
  rw [paddedMessage, List.getElem?_append_right (by omega), prefixed, le64Bytes_getElem? _ (by omega)]

end

/-! ### The padded byte function, R101, by its cases -/

section
variable (s : State) {n : Nat}

theorem paddedByte_message (h : n < s.len.toNat) : s.paddedByte n = s.memRead (s.src.toNat + n) := if_pos h

theorem paddedByte_marker : s.paddedByte s.len.toNat = 0x80 := by
  simp [State.paddedByte]

theorem paddedByte_zero (hl : s.len.toNat < n) (hn : n < paddedLength s.len.toNat - 8) : s.paddedByte n = 0 := by
  simp [State.paddedByte, hl.not_gt, hl.ne', hn]

theorem paddedByte_trailer (h : paddedLength s.len.toNat - 8 ≤ n) :
    s.paddedByte n = trailerByte s.len.toNat (n - (paddedLength s.len.toNat - 8)) := by
  have := paddedLength_ge s.len.toNat
  have hl : s.len.toNat < n := by omega
  simp [State.paddedByte, hl.not_gt, hl.ne', h.not_gt]

end

/-- Settles O28: byte by byte in the four parts of the padded message. -/
theorem paddedBytesAreThePaddedMessage : Obligations.PaddedBytesAreThePaddedMessage := by
  unfold Obligations.PaddedBytesAreThePaddedMessage State.padded
  intro s
  have hlen := length_message s
  refine ⟨hlen ▸ length_paddedMessage s.message, fun n hn => ?_⟩
  rcases lt_trichotomy n s.len.toNat with hmsg | rfl | hpad
  · rw [paddedByte_message s hmsg, paddedMessage_message _ (hlen ▸ hmsg), message_getElem? s hmsg]
  · rw [paddedByte_marker, ← hlen, paddedMessage_marker]
  · rcases lt_or_ge n (paddedLength s.len.toNat - 8) with hzero | htrailer
    · rw [paddedByte_zero s hpad hzero, paddedMessage_zero _ (hlen ▸ hpad) (hlen ▸ hzero)]
    · rw [paddedByte_trailer s htrailer, paddedMessage_trailer _ (hlen ▸ htrailer) (hlen ▸ hn), hlen]

/-! ### The padded length -/

/-- The smallest multiple of 64 with room for 0x80 and the trailer, R100. -/
theorem paddedLength_le_of_dvd {l n : Nat} (hn : 64 ∣ n) (hl : l + 9 ≤ n) : paddedLength l ≤ n := by
  obtain ⟨k, rfl⟩ := hn
  unfold paddedLength blockCount
  omega

/-- The bytes of padding, R102: 72 at L mod 64 = 56, one fewer for each byte past it, down to 9 at L mod 64 = 55. -/
theorem paddedLength_sub (l : Nat) : paddedLength l - l = 72 - (l + 8) % 64 := by
  unfold paddedLength blockCount
  omega

/-- Settles O27: `paddedLength_ge` and `paddedLength_le_of_dvd` are R100's contract, `paddedLength_sub` gives R102's bounds. -/
theorem paddedLengthIsTheSmallestMultiple : Obligations.PaddedLengthIsTheSmallestMultiple := by
  unfold Obligations.PaddedLengthIsTheSmallestMultiple
  intro l
  have hdvd : 64 ∣ paddedLength l := ⟨blockCount l, rfl⟩
  have hge := paddedLength_ge l
  have hsub := paddedLength_sub l
  have hcount : blockCount l = paddedLength l / 64 := (Nat.mul_div_cancel_left _ (by decide)).symm
  refine ⟨⟨rfl, hcount, hdvd, hge, fun n => paddedLength_le_of_dvd⟩, Nat.mod_eq_zero_of_dvd hdvd, ?_⟩
  omega

end Sys2Proof.Machine

namespace Sys2Proof.Machine

/-! ### The block's words -/

/-- The padded message's bytes are R101's, inside its length. -/
theorem padded_getD (s : State) {n : Nat} (h : n < paddedLength s.len.toNat) : s.padded.getD n 0 = s.paddedByte n := by
  obtain ⟨-, byte⟩ := paddedBytesAreThePaddedMessage s
  rw [List.getD_eq_getElem?_getD, byte n h, Option.getD_some]

/-- The words LOAD latches are those of the padded message's block, R92 and R110. -/
theorem blockWords_eq_messageBlock (s : State) {b : Nat} (hb : b < blockCount s.len.toNat) :
    s.blockWords b = messageBlock s.padded b := by
  refine congrArg Vector.ofFn (funext fun j => ?_)
  have byte (k : Nat) (hk : k < 4) : s.padded.getD (64 * b + 4 * j + k) 0 = s.paddedByte (64 * b + 4 * j + k) :=
    padded_getD s (by unfold paddedLength; omega)
  simp only [State.blockWord, messageBlockWord, byte 1 (by decide), byte 2 (by decide), byte 3 (by decide)]
  exact congrArg (le32 · _ _ _) (byte 0 (by decide)).symm

/-! ### FEED's position -/

/-- BLK does not wrap, and FINALIZING comes exactly when it reaches NBLK, R27 and R132. -/
theorem State.Inv.fed_position {s : State} (h : s.Inv) (hp : s.phase = .iterFeed) :
    s.fed.blk.toNat = s.blk.toNat + 1 ∧ s.fed.phase = if s.fed.blk = s.nblk then .finalizing else .iterLoad := by
  obtain ⟨-, hlt⟩ := h.iterating (.inr (.inr hp))
  have hblk : (s.blk + 1).toNat = s.blk.toNat + 1 := by bv_omega
  refine ⟨hblk, ?_⟩
  show (if (s.blk + 1).toNat < s.nblk.toNat then Phase.iterLoad else .finalizing) = if s.blk + 1 = s.nblk then _ else _
  by_cases hlast : s.blk + 1 = s.nblk
  · rw [if_pos hlast, hlast, if_neg (Nat.lt_irrefl _)]
  · rw [if_neg hlast, if_pos (by bv_omega)]

/-! ### What a computation's registers hold, phase by phase -/

section
variable {s : State}

theorem computes_of_not_busy (hb : s.busy = false) : s.computes := by
  rcases (Phase.not_busy_iff s.phase).1 hb with e | e | e <;> simp [State.computes, e]

theorem computes_iff_of_iterLoad (hp : s.phase = .iterLoad) : s.computes ↔ s.h = chainValue s.padded s.blk.toNat := by
  simp only [State.computes, hp]

theorem computes_iff_of_iterRound (hp : s.phase = .iterRound) :
    s.computes ↔ s.h = chainValue s.padded s.blk.toNat ∧ s.m = messageBlock s.padded s.blk.toNat ∧
      s.r = roundsTo s.m s.h s.step.toNat := by
  simp only [State.computes, hp]

theorem computes_iff_of_iterFeed (hp : s.phase = .iterFeed) :
    s.computes ↔ s.h = chainValue s.padded s.blk.toNat ∧ s.m = messageBlock s.padded s.blk.toNat ∧
      s.r = roundsTo s.m s.h 64 := by
  simp only [State.computes, hp]

theorem computes_iff_of_finalizing (hp : s.phase = .finalizing) : s.computes ↔ s.h = transform s.message := by
  simp only [State.computes, hp]

/-- The contents depend on the sequencer's position, the datapath and the message alone. -/
theorem computes_of_same {t : State} (sequencer : SameSequencer s t) (datapath : SameDatapath s t)
    (message : t.message = s.message) (c : s.computes) : t.computes := by
  obtain ⟨phase, step, blk, -⟩ := sequencer
  obtain ⟨h, r, m⟩ := datapath
  unfold State.computes State.padded at c ⊢
  rw [phase, step, blk, h, r, m, message]
  exact c

end

/-! ### The contents under the micro-ops -/

/-- No micro-op changes the message, R62. -/
theorem MicroEffect.same_message {s t : State} {i : Instr} (e : MicroEffect s i t) : t.message = s.message :=
  message_eq_of_same_bytes e.same_operands fun a _ => by rw [State.memRead, State.memRead, e.same_inMem]

theorem MicroEffect.same_padded {s t : State} {i : Instr} (e : MicroEffect s i t) : t.padded = s.padded :=
  congrArg paddedMessage e.same_message

section
variable {s : State}

/-- The first chaining value is IV, R22 and R133. -/
theorem counted_computes (h : s.Inv) (hp : s.phase = .padding) : s.counted.computes := by
  have pos := h.position
  simp only [State.positionInv, hp] at pos
  obtain ⟨hblk, -, hh, -⟩ := pos
  show s.h = chainValue _ s.blk.toNat
  rw [hh, hblk]
  rfl

/-- A block's rounds begin with M its words and r the chaining value, R111. -/
theorem loaded_computes (h : s.Inv) (c : s.computes) (hp : s.phase = .iterLoad) : s.loaded.computes := by
  obtain ⟨⟨-, hn, -⟩, hlt⟩ := h.iterating (.inl hp)
  have hh : s.h = chainValue s.padded s.blk.toNat := (computes_iff_of_iterLoad hp).1 c
  have hm : s.blockWords s.blk.toNat = messageBlock s.padded s.blk.toNat := blockWords_eq_messageBlock s (hn ▸ hlt)
  rw [computes_iff_of_iterRound (loaded_phase s), MicroEffect.loads.same_padded]
  simp only [loaded_h, loaded_m, loaded_r, loaded_blk, loaded_step]
  exact ⟨hh, hm, rfl⟩

/-- One more step of the round, R126. -/
theorem roundsTo_succ_toNat (m : Vector Word 16) (r : Vector Word 4) (i : BitVec 6) :
    stepWords (mixOfRound (i.extractLsb' 4 2)) i m (roundsTo m r i.toNat) = roundsTo m r (i.toNat + 1) := by
  rw [roundsTo, BitVec.ofNat_toNat, BitVec.setWidth_eq]
  rfl

/-- r holds the working words after one more step, the 64th as the round is left, R126 to R130. -/
theorem compressStep_computes (c : s.computes) (hp : s.phase = .iterRound) :
    (s.compressStep (mixOfRound (s.step.extractLsb' 4 2)) s.step).computes := by
  obtain ⟨hh, hm, hr⟩ := (computes_iff_of_iterRound hp).1 c
  have padded := (MicroEffect.rounds (s := s) s.step).same_padded
  have next := roundsTo_succ_toNat s.m s.h s.step
  by_cases hi : s.step = 63
  · rw [computes_iff_of_iterFeed (by rw [compressStep_phase, if_pos hi]), padded]
    simp only [compressStep_h, compressStep_m, compressStep_r, compressStep_blk]
    exact ⟨hh, hm, by rw [hr, next, hi]; rfl⟩
  · have hstep : (s.step + 1).toNat = s.step.toNat + 1 := by bv_omega
    rw [computes_iff_of_iterRound (by rw [compressStep_phase, if_neg hi, hp]), padded]
    simp only [compressStep_h, compressStep_m, compressStep_r, compressStep_blk, compressStep_step, if_neg hi]
    exact ⟨hh, hm, by rw [hr, next, hstep]⟩

/-- H holds the next block's chaining value, which after the last block is the transform, R132, R133 and R143. -/
theorem fed_computes (h : s.Inv) (c : s.computes) (hp : s.phase = .iterFeed) : s.fed.computes := by
  obtain ⟨hh, hm, hr⟩ := (computes_iff_of_iterFeed hp).1 c
  obtain ⟨⟨-, hn, -⟩, -⟩ := h.iterating (.inr (.inr hp))
  obtain ⟨hblk, hphase⟩ := h.fed_position hp
  have chain : s.fed.h = chainValue s.padded s.fed.blk.toNat := by
    rw [hblk, chainValue, ← hh, ← hm, compress, ← hr]
    rfl
  by_cases hlast : s.fed.blk = s.nblk
  · rw [computes_iff_of_finalizing (hphase.trans (if_pos hlast)), chain, hlast, hn, MicroEffect.feeds.same_message,
      transform, length_message]
    rfl
  · rw [computes_iff_of_iterLoad (hphase.trans (if_neg hlast)), MicroEffect.feeds.same_padded]
    exact chain

end

theorem microOp_keeps_computes {s t : State} {i : Instr} (h : s.Inv) (c : s.computes)
    (hi : decodeMicro s.microWord = some i) (hx : exec i s = .next t) : t.computes := by
  rw [decodeMicro_microWord] at hi
  cases hp : s.phase <;> simp only [hp] at hi <;> cases hi
  case padding =>
    by_cases ha : s.admits
    · cases (exec_pad_of_admits ha).symm.trans hx
      exact counted_computes h hp
    · cases (exec_pad_of_not_admits ha).symm.trans hx
      trivial
  case iterLoad =>
    cases exec_load_next hx
    exact loaded_computes h c hp
  case iterRound =>
    cases (exec_stepOpAt s.step s).symm.trans hx
    exact compressStep_computes c hp
  case iterFeed =>
    cases (exec_feed s).symm.trans hx
    exact fed_computes h c hp
  case finalizing =>
    cases (exec_final s).symm.trans hx
    trivial

/-! ### The contents under the other turns -/

/-- A transaction leaves what the contents speak of, or a phase in which they are empty. -/
theorem HostEffect.keeps_computes {i : Instr} {s t : State} (e : HostEffect s i t) (c : s.computes) : t.computes := by
  cases e with
  | answers | startIgnored | configures | srcIgnored | lenIgnored | ignored => exact c
  | clears | startAccepted => trivial
  | srcWritten _ _ hb | lenWritten _ _ hb => exact computes_of_not_busy hb

/-- Settles O56: `step_cases` splits the step into its turns; each micro-op and transaction keeps the contents, and the host's write
of a byte keeps the message while BUSY. -/
theorem everyStepKeepsTheComputation : Obligations.EveryStepKeepsTheComputation := by
  unfold Obligations.EveryStepKeepsTheComputation
  intro s t h c hst
  rcases step_cases hst with ⟨i, -, hi, hx⟩ | ⟨-, -, rfl⟩ | ⟨req, i, -, -, hi, hx⟩ | ⟨-, rfl⟩ | ⟨a, b, -, -, -, rfl⟩
  · exact microOp_keeps_computes h.takeTurn c hi hx
  · exact c
  · exact (hostEffect_of_exec (isMicroOp_of_decodeDesc hi) hx).keeps_computes c
  · trivial
  · cases hb : s.busy with
    | false => exact computes_of_not_busy hb
    | true =>
      have message : (s.takeTurn.setInMem (Memory.write s.inMem a b)).message = s.message :=
        message_eq_of_same_bytes ⟨rfl, rfl⟩ (step_same_message_bytes_of_busy h hst hb)
      exact computes_of_same (s := s) ⟨rfl, rfl, rfl, rfl⟩ ⟨rfl, rfl, rfl⟩ message c

end Sys2Proof.Machine

namespace Sys2Proof.Machine

/-! ### LOAD -/

theorem decodeMicro_of_iterLoad {w : MicroWord} (h : w.extractLsb' 6 3 = Phase.code .iterLoad) : decodeMicro w = some .load := by
  obtain ⟨s, rfl, hp⟩ := exists_microWord_eq_of_phase h
  rw [decodeMicro_microWord, hp]

theorem trailerByte_toNat (l k : Nat) : (trailerByte l k).toNat = 8 * l / 2 ^ (8 * k) % 2 ^ 8 := by
  rw [trailerByte, BitVec.toNat_ofNat, Nat.shiftRight_eq_div_pow]

/-- R101's four cases fix the padded byte function below N(LEN). -/
theorem eq_paddedByte_of_cases {s : State} {P : Nat → Byte}
    (message : ∀ n, n < s.len.toNat → P n = s.memRead (s.src.toNat + n)) (marker : P s.len.toNat = 0x80)
    (zeros : ∀ n, s.len.toNat < n → n < paddedLength s.len.toNat - 8 → P n = 0)
    (trailer : ∀ k, k < 8 → (P (paddedLength s.len.toNat - 8 + k)).toNat = 8 * s.len.toNat / 2 ^ (8 * k) % 2 ^ 8)
    {n : Nat} (hn : n < paddedLength s.len.toNat) : P n = s.paddedByte n := by
  rcases lt_trichotomy n s.len.toNat with hmsg | rfl | hpad
  · rw [message n hmsg, paddedByte_message s hmsg]
  · rw [marker, paddedByte_marker]
  · rcases lt_or_ge n (paddedLength s.len.toNat - 8) with hzero | htrailer
    · rw [zeros n hpad hzero, paddedByte_zero s hpad hzero]
    · obtain ⟨k, rfl⟩ := Nat.exists_eq_add_of_le htrailer
      apply BitVec.eq_of_toNat_eq
      rw [trailer k (by omega), paddedByte_trailer s htrailer, Nat.add_sub_cancel_left, trailerByte_toNat]

/-- W(b, j) made of the bytes of a function that is the padded byte function below N(LEN), R110. -/
theorem blockWord_eq_of_paddedByte {s : State} {P : Nat → Byte} (hP : ∀ n, n < paddedLength s.len.toNat → P n = s.paddedByte n)
    {b j : Nat} (hb : b < blockCount s.len.toNat) (hj : j < 16) :
    s.blockWord b j = le32 (P (64 * b + 4 * j)) (P (64 * b + 4 * j + 1)) (P (64 * b + 4 * j + 2)) (P (64 * b + 4 * j + 3)) := by
  have inside : 64 * b + 4 * j + 3 < paddedLength s.len.toNat := by unfold paddedLength; omega
  rw [State.blockWord, hP _ (by omega), hP _ (by omega), hP _ (by omega), hP _ inside]

/-- LOAD writes M, r, STEP and PHASE, R111. -/
theorem loaded_eq (s : State) :
    s.loaded = { s with m := s.blockWords s.blk.toNat, r := s.h, step := 0, phase := .iterRound } := by
  unfold State.loaded
  generalize s.blockWords s.blk.toNat = m
  rfl

/-- Settles O29: LOAD completes under its conditions, and R101's cases fix the bytes its words are made of. -/
theorem loadLatchesTheBlock : Obligations.LoadLatchesTheBlock := by
  unfold Obligations.LoadLatchesTheBlock
  refine ⟨fun w => decodeMicro_of_iterLoad, fun s P hb hmem message marker zeros trailer => ?_⟩
  refine ⟨s.loaded, exec_load_of_admits hb hmem, by rw [loaded_m, loaded_eq], fun j => ?_⟩
  have word : s.loaded.m[j] = s.blockWord s.blk.toNat j := by simp [State.blockWords]
  rw [word, blockWord_eq_of_paddedByte (fun n => eq_paddedByte_of_cases message marker zeros trailer) hb j.isLt]
  rfl

theorem blockInMem_eq_false {s : State} {b n : Nat} (hlo : 64 * b ≤ n) (hhi : n < 64 * b + 64) (hlen : n < s.len.toNat)
    (hout : 2 ^ s.addrW ≤ s.src.toNat + n) : s.blockInMem b = false := by
  simp only [State.blockInMem, Bool.or_eq_false_iff, decide_eq_false_iff_not]
  omega

/-- Settles O30: the two tests of LOAD, each failed. -/
theorem loadFaultsOutsideItsConditions : Obligations.LoadFaultsOutsideItsConditions := by
  unfold Obligations.LoadFaultsOutsideItsConditions
  refine fun s => ⟨fun hb => ?_, fun n hb hlo hhi hlen hout => ?_⟩
  · show execLoad s = _
    rw [execLoad, if_neg hb.not_gt]
  · show execLoad s = _
    rw [execLoad, if_pos hb, blockInMem_eq_false hlo hhi hlen hout]
    rfl

/-! ### The order of the blocks -/

/-- A micro-op is run by the core's turn alone, and is the one its position selects, R86. -/
theorem decodeMicro_of_runs {s : State} {i : Instr} (hi : isMicroOp i = true) (hr : s.runs i) :
    decodeMicro s.microWord = some i := by
  have hr : fetch s = .run i s.takeTurn := hr
  have core (hc : s.coreIsNext) : decodeMicro s.microWord = some i := by
    rw [fetch_core hc, coreTurn, takeTurn_microWord] at hr
    cases hd : decodeMicro s.microWord with
    | none => simp [hd] at hr
    | some k => simpa [hd] using hr
  cases hm : s.moves.head? with
  | none => exact core (.inl hm)
  | some m =>
    cases m with
    | core => exact core (.inr hm)
    | bus req =>
      rw [fetch_bus hm, busTurn] at hr
      split at hr
      · cases hd : decodeDesc req.desc with
        | none => simp [hd] at hr
        | some k =>
          obtain rfl : k = i := by simpa [hd] using hr
          exact absurd (isMicroOp_of_decodeDesc hd) (by simp [hi])
      · cases hr
    | rst => simp [fetch_rst hm] at hr
    | memWrite a b =>
      rw [fetch_memWrite hm, memWriteTurn] at hr
      split at hr
      · split at hr <;> cases hr
      · cases hr

/-- FEED is selected in ITER_FEED alone, R86. -/
theorem phase_of_runs_feed {s : State} (hr : s.runs .feed) : s.phase = .iterFeed := by
  have hd := decodeMicro_of_runs rfl hr
  rw [decodeMicro_microWord] at hd
  obtain ⟨-, -, hne, -⟩ := stepOpAt_ne s.step
  cases hp : s.phase with
  | iterFeed => rfl
  | iterRound => simp [hp, hne] at hd
  | idle | padding | iterLoad | finalizing | done | error => simp [hp] at hd

/-- Step 63's micro-op is selected at STEP = 63 of ITER_ROUND alone, R86. -/
theorem position_of_decodeMicro_step63 {s : State} (hd : decodeMicro s.microWord = some (stepOpAt 63)) :
    s.phase = .iterRound ∧ s.step = 63 := by
  have only : ∀ i : BitVec 6, stepOpAt i = stepOpAt 63 → i = 63 := by decide
  rw [decodeMicro_microWord] at hd
  cases hp : s.phase with
  | iterRound =>
    simp only [hp] at hd
    exact ⟨rfl, only s.step (Option.some.inj hd)⟩
  | idle | done | error => simp [hp] at hd
  | padding | iterLoad | iterFeed | finalizing =>
    simp only [hp] at hd
    cases hd

/-- Step 63 alone enters ITER_FEED, R127 to R130. -/
theorem MicroEffect.enters_iterFeed {s t : State} {i : Instr} (e : MicroEffect s i t) (ht : t.phase = .iterFeed)
    (hs : s.phase ≠ .iterFeed) : i = stepOpAt 63 := by
  cases e with
  | padAdmits | padRejects | loads | finishes => cases ht
  | rounds k =>
    by_cases hk : k = 63
    · rw [hk]
    · rw [compressStep_phase, if_neg hk] at ht
      exact absurd ht hs
  | feeds =>
    unfold State.fed at ht
    split at ht <;> cases ht

/-- A transaction moves the sequencer to IDLE or PADDING, or leaves its phase, R159 and R160. -/
theorem HostEffect.phase_cases {s t : State} {i : Instr} (e : HostEffect s i t) :
    t.phase = s.phase ∨ t.phase = .idle ∨ t.phase = .padding := by
  cases e with
  | answers | startIgnored | configures | srcIgnored | srcWritten | lenIgnored | lenWritten | ignored => exact .inl rfl
  | clears => exact .inr (.inl rfl)
  | startAccepted => exact .inr (.inr rfl)

/-- A transaction leaves BLK, or is an accepted START or a CLEAR, which returns it to 0, R159 and R160. -/
theorem HostEffect.blk_cases {s t : State} {i : Instr} (hr : s.runs i) (e : HostEffect s.takeTurn i t) :
    t.blk = s.blk ∨ (s.startsNext ∨ s.resetsNext) ∧ t.blk = 0 := by
  cases e with
  | answers | startIgnored | configures | srcIgnored | srcWritten | lenIgnored | lenWritten | ignored => exact .inl rfl
  | clears data => exact .inr ⟨.inr (.inl ⟨data, hr⟩), rfl⟩
  | startAccepted data hb => exact .inr ⟨.inl ⟨hb, data, hr⟩, rfl⟩

/-- FEED's step, R132. -/
theorem step_of_runs_feed {s t : State} (hr : s.runs .feed) (hst : step s = .next t) : t = s.takeTurn.fed :=
  (Host.Outcome.next.inj ((step_of_runs hr).symm.trans hst)).symm

theorem step_blk_cases {s t : State} (hst : step s = .next t) :
    t.blk = s.blk ∨ s.runs .feed ∨ (s.startsNext ∨ s.resetsNext) ∧ t.blk = 0 := by
  rcases step_cases hst with ⟨i, hc, hi, hx⟩ | ⟨-, -, rfl⟩ | ⟨req, i, hq, hw, hi, hx⟩ | ⟨hr, rfl⟩ | ⟨a, b, -, -, -, rfl⟩
  · by_cases hfeed : i = .feed
    · exact .inr (.inl (hfeed ▸ runs_core hc hi))
    · exact .inl ((microEffect_of_exec (isMicroOp_of_decodeMicro hi) hx).same_h_and_blk hfeed).2
  · exact .inl rfl
  · exact ((hostEffect_of_exec (isMicroOp_of_decodeDesc hi) hx).blk_cases (runs_bus hq hw hi)).imp_right .inr
  · exact .inr (.inr ⟨.inr (.inr hr), rfl⟩)
  · exact .inl rfl

theorem step_enters_iterFeed {s t : State} (hst : step s = .next t) (ht : t.phase = .iterFeed) (hs : s.phase ≠ .iterFeed) :
    s.phase = .iterRound ∧ s.step = 63 := by
  rcases step_cases hst with ⟨i, -, hi, hx⟩ | ⟨-, -, rfl⟩ | ⟨req, i, -, -, hi, hx⟩ | ⟨-, rfl⟩ | ⟨a, b, -, -, -, rfl⟩
  · obtain rfl := (microEffect_of_exec (isMicroOp_of_decodeMicro hi) hx).enters_iterFeed ht hs
    exact position_of_decodeMicro_step63 hi
  · exact absurd ht hs
  · rcases (hostEffect_of_exec (isMicroOp_of_decodeDesc hi) hx).phase_cases with same | idle | padding
    · exact absurd (same.symm.trans ht) hs
    · cases idle.symm.trans ht
    · cases padding.symm.trans ht
  · cases ht
  · exact absurd ht hs

/-- Settles O49: BLK's changes by `step_blk_cases`, the entry to ITER_FEED by `step_enters_iterFeed`, FEED's position by
`State.Inv.fed_position`. -/
theorem blocksAreVisitedInOrder : Obligations.BlocksAreVisitedInOrder := by
  unfold Obligations.BlocksAreVisitedInOrder
  intro s t h hst
  have fed (hr : s.runs .feed) : t.blk.toNat = s.blk.toNat + 1 ∧ t.phase = if t.blk = t.nblk then .finalizing else .iterLoad := by
    have hp : s.phase = .iterFeed := phase_of_runs_feed hr
    obtain rfl := step_of_runs_feed hr hst
    exact h.takeTurn.fed_position (s := s.takeTurn) hp
  refine ⟨fun changed => ?_, step_enters_iterFeed hst, fun hr => (fed hr).2⟩
  exact (step_blk_cases hst).resolve_left changed |>.imp_left fun hr => ⟨hr, (fed hr).1⟩

end Sys2Proof.Machine

namespace Sys2Proof.Machine

/-! ### The arithmetic primitives -/

/-- R121's two shifts are the library's rotation. -/
theorem rotl32_eq_rotateLeft (x : Word) {n : Nat} (hn : n < 32) : rotl32 x n = x.rotateLeft n := by
  rw [rotl32, BitVec.rotateLeft_def, Nat.mod_eq_of_lt hn]

/-- A rotation moves bit k to bit (k + n) mod 32: from bit 32 − n up it wraps. -/
theorem rotl32_getLsbD (x : Word) {n k : Nat} (hn : n < 32) (hk : k < 32) :
    (rotl32 x n).getLsbD ((k + n) % 32) = x.getLsbD k := by
  rw [rotl32_eq_rotateLeft x hn, BitVec.getLsbD_rotateLeft_of_le hn]
  by_cases hwrap : k + n < 32
  · have hmod : (k + n) % 32 = k + n := Nat.mod_eq_of_lt hwrap
    simp [hmod, hwrap]
  · have hmod : (k + n) % 32 = k + n - 32 := by omega
    have hlow : k + n - 32 < n := by omega
    have hback : 32 - n + (k + n - 32) = k := by omega
    simp [hmod, hlow, hback]

/-- Settles O31: the shifts are the definition, the movement of the bits is `rotl32_getLsbD`. -/
theorem rotationMovesBitsInACircle : Obligations.RotationMovesBitsInACircle := by
  unfold Obligations.RotationMovesBitsInACircle
  exact fun x n _ hn => ⟨rfl, fun k hk => rotl32_getLsbD x (by omega) hk⟩

section
variable (x y z : Word) (k : Nat)

/-- F selects by x, R122. -/
theorem mixF_getLsbD (hk : k < 32) :
    (mixF x y z).getLsbD k = if x.getLsbD k then y.getLsbD k else z.getLsbD k := by
  simp only [mixF, BitVec.getLsbD_or, BitVec.getLsbD_and, BitVec.getLsbD_not, hk]
  cases x.getLsbD k <;> simp

/-- G selects by z, R123. -/
theorem mixG_getLsbD (hk : k < 32) :
    (mixG x y z).getLsbD k = if z.getLsbD k then x.getLsbD k else y.getLsbD k := by
  simp only [mixG, BitVec.getLsbD_or, BitVec.getLsbD_and, BitVec.getLsbD_not, hk]
  cases z.getLsbD k <;> simp

/-- H is the parity of its three words, R124. -/
theorem mixH_getLsbD : (mixH x y z).getLsbD k = (x.getLsbD k ^^ (y.getLsbD k ^^ z.getLsbD k)) := by
  simp only [mixH, BitVec.getLsbD_xor, Bool.xor_assoc]

/-- I, R125. -/
theorem mixI_getLsbD (hk : k < 32) : (mixI x y z).getLsbD k = (y.getLsbD k ^^ (x.getLsbD k || !z.getLsbD k)) := by
  simp only [mixI, BitVec.getLsbD_xor, BitVec.getLsbD_or, BitVec.getLsbD_not, hk, decide_true, Bool.true_and]

end

/-- Settles O32: one lemma for each mixing function. -/
theorem mixingFunctionsBitByBit : Obligations.MixingFunctionsBitByBit := by
  unfold Obligations.MixingFunctionsBitByBit
  exact fun x y z k hk =>
    ⟨mixF_getLsbD x y z k hk, mixG_getLsbD x y z k hk, mixH_getLsbD x y z k, mixI_getLsbD x y z k hk⟩

/-! ### The steps of the four rounds -/

/-- A micro-op word of PHASE = 3 is that of its round and its step in the round, R86. -/
theorem eq_stepWord {w : MicroWord} {round : BitVec 2} (h : w.extractLsb' 4 5 = 3#3 ++ round) :
    w = stepWord round (w.extractLsb' 0 4) := by
  have whole : w.extractLsb' 4 5 ++ w.extractLsb' 0 4 = w.extractLsb' 0 9 :=
    BitVec.extractLsb'_append_extractLsb'_eq_extractLsb' rfl
  rw [stepWord, ← h, whole, BitVec.extractLsb'_eq_self]

/-- The decoder reads a STEP micro-op back from any word of its round, R86. -/
theorem decodeMicro_of_encode_step {w : MicroWord} {round : BitVec 2} {op : BitVec 4 → Instr}
    (h : w.extractLsb' 4 5 = 3#3 ++ round) (henc : ∀ j, encode (op j) = .micro (stepWord round j))
    (hwf : ∀ j, (op j).wellFormed = true) : decodeMicro w = some (op (w.extractLsb' 0 4)) := by
  have hdec := decodeOfEncodeIsTheOperation _ (hwf (w.extractLsb' 0 4))
  rwa [henc, ← eq_stepWord h] at hdec

/-- s(i) in the four rounds, round by round, R88. -/
theorem romS_rounds (j : BitVec 4) :
    romS (0#2 ++ j) = [7, 12, 17, 22].getD (j.toNat % 4) 0 ∧ romS (1#2 ++ j) = [5, 9, 14, 20].getD (j.toNat % 4) 0 ∧
    romS (2#2 ++ j) = [4, 11, 16, 23].getD (j.toNat % 4) 0 ∧ romS (3#2 ++ j) = [6, 10, 15, 21].getD (j.toNat % 4) 0 := by
  revert j; decide

/-- Step 63 is the last of round 4, R88. -/
theorem stepIndex_eq_63_iff (round : BitVec 2) (j : BitVec 4) : stepIndex round j = 63 ↔ round = 3 ∧ j = 15 := by
  revert round j; decide

section
variable (fn : Word → Word → Word → Word) {s : State} {k n : Nat} {x : Word}

/-- R126 with the entries k and n of step i put in, and the moves of R127 to R130: a step writes r, STEP and PHASE. -/
theorem compressStep_eq {i : BitVec 6} (hk : (romK i).toNat = k) (hn : romS i = n) (hlt : k < 16)
    (hx : x = s.r[0] + fn s.r[1] s.r[2] s.r[3] + s.m[k] + romT i) :
    s.compressStep fn i = { s with
      r := #v[s.r[3], s.r[1] + ((x <<< n) ||| (x >>> (32 - n))), s.r[1], s.r[2]]
      step := if i = 63 then 0 else i + 1
      phase := if i = 63 then .iterFeed else s.phase } := by
  subst hk hn hx
  unfold State.compressStep
  split <;> rfl

/-- A step of the first three rounds goes on to the next, R127 to R129. -/
theorem compressStep_of_round_ne {round : BitVec 2} {j : BitVec 4} (h : round ≠ 3) (hk : (romK (round ++ j)).toNat = k)
    (hn : romS (round ++ j) = n) (hlt : k < 16)
    (hx : x = s.r[0] + fn s.r[1] s.r[2] s.r[3] + s.m[k] + romT (round ++ j)) :
    s.compressStep fn (stepIndex round j) = { s with
      r := #v[s.r[3], s.r[1] + ((x <<< n) ||| (x >>> (32 - n))), s.r[1], s.r[2]], step := (round ++ j) + 1 } := by
  have hne : stepIndex round j ≠ 63 := fun h63 => h ((stepIndex_eq_63_iff round j).1 h63).1
  rw [compressStep_eq fn (i := stepIndex round j) hk hn hlt hx, if_neg hne, if_neg hne]
  rfl

end

/-- Settles O34: `compressStep_of_round_ne` at round 1's entries of the step table. -/
theorem stepFUpdatesTheWorkingWords : Obligations.StepFUpdatesTheWorkingWords := by
  unfold Obligations.StepFUpdatesTheWorkingWords
  refine ⟨fun w h => decodeMicro_of_encode_step (round := 0) h (fun _ => rfl) (fun _ => rfl), fun s j => ?_⟩
  obtain ⟨hk, -, -, -⟩ := romK_closed_form j
  obtain ⟨hs, -, -, -⟩ := romS_rounds j
  exact ⟨_, _, rfl, rfl, congrArg Host.Outcome.next (compressStep_of_round_ne mixF (by decide) hk hs j.isLt rfl)⟩

/-- Settles O35: `compressStep_of_round_ne` at round 2's entries of the step table. -/
theorem stepGUpdatesTheWorkingWords : Obligations.StepGUpdatesTheWorkingWords := by
  unfold Obligations.StepGUpdatesTheWorkingWords
  refine ⟨fun w h => decodeMicro_of_encode_step (round := 1) h (fun _ => rfl) (fun _ => rfl), fun s j => ?_⟩
  obtain ⟨-, hk, -, -⟩ := romK_closed_form j
  obtain ⟨-, hs, -, -⟩ := romS_rounds j
  exact ⟨_, _, rfl, rfl, congrArg Host.Outcome.next
    (compressStep_of_round_ne mixG (by decide) hk hs (Nat.mod_lt _ (by decide)) rfl)⟩

/-- Settles O36: `compressStep_of_round_ne` at round 3's entries of the step table. -/
theorem stepHUpdatesTheWorkingWords : Obligations.StepHUpdatesTheWorkingWords := by
  unfold Obligations.StepHUpdatesTheWorkingWords
  refine ⟨fun w h => decodeMicro_of_encode_step (round := 2) h (fun _ => rfl) (fun _ => rfl), fun s j => ?_⟩
  obtain ⟨-, -, hk, -⟩ := romK_closed_form j
  obtain ⟨-, -, hs, -⟩ := romS_rounds j
  exact ⟨_, _, rfl, rfl, congrArg Host.Outcome.next
    (compressStep_of_round_ne mixH (by decide) hk hs (Nat.mod_lt _ (by decide)) rfl)⟩

/-- Settles O37: `compressStep_eq` at round 4's entries of the step table; the round's last step, j = 15, is step 63. -/
theorem stepIUpdatesTheWorkingWords : Obligations.StepIUpdatesTheWorkingWords := by
  unfold Obligations.StepIUpdatesTheWorkingWords
  refine ⟨fun w h => decodeMicro_of_encode_step (round := 3) h (fun _ => rfl) (fun _ => rfl), fun s j => ?_⟩
  obtain ⟨-, -, -, hk⟩ := romK_closed_form j
  obtain ⟨-, -, -, hs⟩ := romS_rounds j
  have last : j = 15 ↔ stepIndex 3 j = 63 := ((stepIndex_eq_63_iff 3 j).trans (and_iff_right rfl)).symm
  simp only [last]
  exact ⟨_, _, rfl, rfl, congrArg Host.Outcome.next (compressStep_eq mixI hk hs (Nat.mod_lt _ (by decide)) rfl)⟩

/-! ### RFC 1321's role renaming -/

/-- RFC 1321's registers in the roles (a, b, c, d) of a step that updates register q, R131. -/
def inRoles (q : Nat) (r : Vector Word 4) : Vector Word 4 :=
  #v[r.getD q 0, r.getD ((q + 1) % 4) 0, r.getD ((q + 2) % 4) 0, r.getD ((q + 3) % 4) 0]

theorem inRoles_zero (r : Vector Word 4) : inRoles 0 r = r := by
  apply Vector.ext
  intro j hj
  interval_cases j <;> simp [inRoles, Vector.getD]

theorem rfcTarget_lt (i : BitVec 6) : rfcTarget i < 4 := by
  revert i; decide

/-- The next step updates the register cyclically before, R131. -/
theorem rfcTarget_succ (i : BitVec 6) : rfcTarget (i + 1) = (rfcTarget i + 3) % 4 := by
  revert i; decide

/-- The register updated in place has role b in the next step, and the other three move on by one role, as the shift moves them. -/
theorem inRoles_setIfInBounds {q : Nat} (hq : q < 4) (r : Vector Word 4) (new : Word) :
    inRoles ((q + 3) % 4) (r.setIfInBounds q new) =
      #v[r.getD ((q + 3) % 4) 0, new, r.getD ((q + 1) % 4) 0, r.getD ((q + 2) % 4) 0] := by
  interval_cases q <;> simp [inRoles, Vector.getD]

/-- The shift form simulates RFC 1321's step: it takes the registers in their roles to the registers in their next roles. -/
theorem plainStep_inRoles (m : Vector Word 16) (i : BitVec 6) (r : Vector Word 4) :
    plainStep m i (inRoles (rfcTarget i) r) = inRoles (rfcTarget (i + 1)) (rfcStep m i r) := by
  rw [rfcTarget_succ, rfcStep, inRoles_setIfInBounds (rfcTarget_lt i)]
  rfl

/-- After every step the shift form holds RFC 1321's registers in the roles of the next step. -/
theorem roundsTo_eq_inRoles (m : Vector Word 16) (r : Vector Word 4) (n : Nat) :
    roundsTo m r n = inRoles (rfcTarget (BitVec.ofNat 6 n)) (rfcRoundsTo m r n) := by
  induction n with
  | zero => exact (inRoles_zero r).symm
  | succ n ih =>
    rw [roundsTo, ih, plainStep_inRoles, BitVec.ofNat_add]
    rfl

/-- Settles O38: `roundsTo_eq_inRoles` where the next step's index is a multiple of 4, so that the roles are the registers' own. -/
theorem shiftFormAgreesWithRoleRenaming : Obligations.ShiftFormAgreesWithRoleRenaming := by
  unfold Obligations.ShiftFormAgreesWithRoleRenaming
  intro m r q _
  have hmod : (4 * q + 4) % 2 ^ 6 % 4 = 0 := by omega
  have htarget : rfcTarget (BitVec.ofNat 6 (4 * q + 4)) = 0 := by simp only [rfcTarget, BitVec.toNat_ofNat, hmod]
  rw [roundsTo_eq_inRoles, htarget, inRoles_zero]

/-! ### FEED -/

theorem decodeMicro_of_iterFeed {w : MicroWord} (h : w.extractLsb' 6 3 = Phase.code .iterFeed) : decodeMicro w = some .feed := by
  obtain ⟨s, rfl, hp⟩ := exists_microWord_eq_of_phase h
  rw [decodeMicro_microWord, hp]

/-- H takes the word sums mod 2^32, R132. -/
theorem fed_h_toNat (s : State) (j : Fin 4) : (s.fed.h[j]).toNat = ((s.h[j]).toNat + (s.r[j]).toNat) % 2 ^ 32 := by
  show ((addWords s.h s.r)[j.val]).toNat = _
  rw [addWords_getElem, BitVec.toNat_add]
  rfl

/-- The incremented BLK does not exceed NBLK, R132. -/
theorem State.Inv.fed_blk_le_nblk {s : State} (h : s.Inv) (hp : s.phase = .iterFeed) : s.fed.blk.toNat ≤ s.fed.nblk.toNat := by
  obtain ⟨-, hlt⟩ := h.iterating (.inr (.inr hp))
  rw [(h.fed_position hp).1]
  exact hlt

/-- Settles O39: FEED's next state is `State.fed`, and the bound is the invariant's at ITER_FEED. -/
theorem feedAccumulatesAndEndsTheBlock : Obligations.FeedAccumulatesAndEndsTheBlock := by
  unfold Obligations.FeedAccumulatesAndEndsTheBlock
  exact ⟨fun w => decodeMicro_of_iterFeed, fun s =>
    ⟨s.fed, exec_feed s, fed_h_toNat s, rfl, rfl, rfl, State.Inv.fed_blk_le_nblk⟩⟩

end Sys2Proof.Machine

namespace Sys2Proof.Machine

/-! ### How many micro-ops remain, phase by phase, R206 -/

section
variable {s : State}

theorem remaining_of_padding_admits (hp : s.phase = .padding) (ha : s.admits) :
    s.remaining = 2 + 66 * blockCount s.len.toNat := by
  simp only [State.remaining, hp, (checks_false_iff_admits s).2 ha, Bool.false_eq_true, if_false]

theorem remaining_of_padding_rejects (hp : s.phase = .padding) (ha : ¬ s.admits) : s.remaining = 1 := by
  have hc : (s.lenTooLarge || s.pastInMem) = true := Bool.eq_true_of_not_eq_false (mt (checks_false_iff_admits s).1 ha)
  simp only [State.remaining, hp, hc, if_true]

theorem remaining_of_iterLoad (hp : s.phase = .iterLoad) : s.remaining = 66 * (s.nblk.toNat - s.blk.toNat) + 1 := by
  simp only [State.remaining, hp]

theorem remaining_of_iterRound (hp : s.phase = .iterRound) :
    s.remaining = (64 - s.step.toNat) + 1 + 66 * (s.nblk.toNat - s.blk.toNat - 1) + 1 := by
  simp only [State.remaining, hp]

theorem remaining_of_iterFeed (hp : s.phase = .iterFeed) :
    s.remaining = 1 + 66 * (s.nblk.toNat - s.blk.toNat - 1) + 1 := by
  simp only [State.remaining, hp]

theorem remaining_of_finalizing (hp : s.phase = .finalizing) : s.remaining = 1 := by
  simp only [State.remaining, hp]

end

/-- No micro-op remains exactly in IDLE, DONE and ERROR. -/
theorem remaining_eq_zero_iff (s : State) : s.remaining = 0 ↔ s.busy = false := by
  unfold State.busy State.remaining
  cases s.phase with
  | idle | done | error => exact iff_of_true rfl rfl
  | padding =>
    refine iff_of_false ?_ (by decide)
    dsimp only
    split <;> omega
  | iterLoad | iterRound | iterFeed | finalizing => exact iff_of_false (by dsimp only; omega) (by decide)

/-! ### Each micro-op takes one off -/

section
variable {s : State}

/-- PAD of an admitted message leaves 66 for each of its blocks, and FINAL. -/
theorem counted_remaining (h : s.Inv) (hp : s.phase = .padding) (ha : s.admits) : s.counted.remaining + 1 = s.remaining := by
  have pos := h.position
  simp only [State.positionInv, hp] at pos
  obtain ⟨hblk, -⟩ := pos
  have hn : s.counted.nblk.toNat = blockCount s.len.toNat := blockCount_toNat ha.1
  have hb : s.counted.blk.toNat = 0 := congrArg BitVec.toNat hblk
  rw [remaining_of_padding_admits hp ha, remaining_of_iterLoad (s := s.counted) rfl, hn, hb]
  omega

/-- LOAD leaves the block's 64 steps and its FEED. -/
theorem loaded_remaining (h : s.Inv) (hp : s.phase = .iterLoad) : s.loaded.remaining + 1 = s.remaining := by
  obtain ⟨-, hlt⟩ := h.iterating (.inl hp)
  have hstep : s.loaded.step.toNat = 0 := by simp
  rw [remaining_of_iterLoad hp, remaining_of_iterRound (loaded_phase s), hstep, loaded_nblk, loaded_blk]
  omega

theorem compressStep_remaining (hp : s.phase = .iterRound) (fn : Word → Word → Word → Word) :
    (s.compressStep fn s.step).remaining + 1 = s.remaining := by
  rw [remaining_of_iterRound hp]
  by_cases hi : s.step = 63
  · have hstep : s.step.toNat = 63 := congrArg BitVec.toNat hi
    rw [remaining_of_iterFeed (by rw [compressStep_phase, if_pos hi]), compressStep_nblk, compressStep_blk, hstep]
    omega
  · have hstep : (s.compressStep fn s.step).step.toNat = s.step.toNat + 1 := by
      rw [compressStep_step, if_neg hi]
      bv_omega
    have hlt : s.step.toNat < 63 := by bv_omega
    rw [remaining_of_iterRound (by rw [compressStep_phase, if_neg hi, hp]), compressStep_nblk, compressStep_blk, hstep]
    omega

/-- FEED leaves 66 for each later block, and FINAL. -/
theorem fed_remaining (h : s.Inv) (hp : s.phase = .iterFeed) : s.fed.remaining + 1 = s.remaining := by
  obtain ⟨-, hlt⟩ := h.iterating (.inr (.inr hp))
  obtain ⟨hblk, hphase⟩ := h.fed_position hp
  rw [remaining_of_iterFeed hp]
  by_cases hlast : s.fed.blk = s.nblk
  · rw [remaining_of_finalizing (hphase.trans (if_pos hlast)), ← hlast, hblk]
    omega
  · have hn : s.fed.nblk = s.nblk := rfl
    rw [remaining_of_iterLoad (hphase.trans (if_neg hlast)), hn, hblk]
    omega

end

/-- The micro-op a phase selects takes one off, R206. -/
theorem microOp_takes_one {s t : State} {i : Instr} (h : s.Inv) (hi : decodeMicro s.microWord = some i)
    (hx : exec i s = .next t) : t.remaining + 1 = s.remaining := by
  rw [decodeMicro_microWord] at hi
  cases hp : s.phase <;> simp only [hp] at hi <;> cases hi
  case padding =>
    by_cases ha : s.admits
    · cases (exec_pad_of_admits ha).symm.trans hx
      exact counted_remaining h hp ha
    · cases (exec_pad_of_not_admits ha).symm.trans hx
      exact (remaining_of_padding_rejects hp ha).symm
  case iterLoad =>
    cases exec_load_next hx
    exact loaded_remaining h hp
  case iterRound =>
    cases (exec_stepOpAt s.step s).symm.trans hx
    exact compressStep_remaining hp _
  case iterFeed =>
    cases (exec_feed s).symm.trans hx
    exact fed_remaining h hp
  case finalizing =>
    cases (exec_final s).symm.trans hx
    exact (remaining_of_finalizing hp).symm

/-! ### The entry to DONE -/

theorem irq_of_done {s : State} (hp : s.phase = .done) : s.irq = s.irqEn := by
  simp [State.irq, hp]

/-- FINAL is selected in FINALIZING alone, R86. -/
theorem phase_of_decodeMicro_final {s : State} (hd : decodeMicro s.microWord = some .final) : s.phase = .finalizing := by
  rw [decodeMicro_microWord] at hd
  obtain ⟨-, -, -, hne⟩ := stepOpAt_ne s.step
  cases hp : s.phase with
  | finalizing => rfl
  | iterRound => simp [hp, hne] at hd
  | idle | padding | iterLoad | iterFeed | done | error => simp [hp] at hd

/-- FINAL alone enters DONE, R140. -/
theorem MicroEffect.enters_done {s t : State} {i : Instr} (e : MicroEffect s i t) (ht : t.phase = .done)
    (hs : s.phase ≠ .done) : i = .final ∧ t = s.finished := by
  cases e with
  | finishes => exact ⟨rfl, rfl⟩
  | padAdmits | padRejects | loads => cases ht
  | rounds k =>
    rw [compressStep_phase] at ht
    split at ht
    · cases ht
    · exact absurd ht hs
  | feeds =>
    unfold State.fed at ht
    split at ht <;> cases ht

theorem step_enters_done {s t : State} (hst : step s = .next t) (ht : t.phase = .done) (hs : s.phase ≠ .done) :
    s.phase = .finalizing ∧ t = s.takeTurn.finished := by
  rcases step_cases hst with ⟨i, -, hi, hx⟩ | ⟨-, -, rfl⟩ | ⟨req, i, -, -, hi, hx⟩ | ⟨-, rfl⟩ | ⟨a, b, -, -, -, rfl⟩
  · obtain ⟨rfl, ht⟩ := (microEffect_of_exec (isMicroOp_of_decodeMicro hi) hx).enters_done ht hs
    exact ⟨phase_of_decodeMicro_final hi, ht⟩
  · exact absurd ht hs
  · rcases (hostEffect_of_exec (isMicroOp_of_decodeDesc hi) hx).phase_cases with same | idle | padding
    · exact absurd (same.symm.trans ht) hs
    · cases idle.symm.trans ht
    · cases padding.symm.trans ht
  · cases ht
  · exact absurd ht hs

/-- Settles O57: DONE is entered from FINALIZING by FINAL, which copies H, and H is the transform there. -/
theorem doneHoldsTheTransformOfTheMessage : Obligations.DoneHoldsTheTransformOfTheMessage := by
  unfold Obligations.DoneHoldsTheTransformOfTheMessage
  intro s t _ c hst hs ht
  obtain ⟨hp, rfl⟩ := step_enters_done hst ht hs
  exact ⟨(computes_iff_of_finalizing hp).1 c, rfl⟩

/-! ### The core's turns, run to the end -/

/-- An admitted message's computation leaves BUSY by entering DONE alone: no other micro-op enters a quiescent phase. -/
theorem MicroEffect.done_of_not_busy {s t : State} {i : Instr} (e : MicroEffect s i t) (ha : s.admits) (hs : s.busy = true)
    (ht : t.busy = false) : t.phase = .done := by
  cases e with
  | finishes => rfl
  | padRejects hr => exact absurd ha hr
  | padAdmits | loads => cases ht
  | rounds k =>
    by_cases hk : k = 63
    · rw [State.busy, compressStep_phase, if_pos hk] at ht
      cases ht
    · rw [State.busy_of_phase (s := s) (by rw [compressStep_phase, if_neg hk]), hs] at ht
      cases ht
  | feeds =>
    unfold State.fed at ht
    split at ht <;> cases ht

theorem exists_decodeMicro_of_busy {s : State} (hb : s.busy = true) : ∃ i, decodeMicro s.microWord = some i := by
  refine Option.ne_none_iff_exists'.1 fun hd => ?_
  have quiet := (Phase.not_busy_iff s.phase).2 ((decodeMicro_microWord_eq_none_iff s).1 hd)
  exact Bool.false_ne_true (quiet.symm.trans hb)

/-- A turn of a BUSY core runs one micro-op, which completes. -/
theorem step_core_of_busy {s : State} (h : s.Inv) (hc : s.coreIsNext) (hb : s.busy = true) :
    ∃ i t, step s = .next t ∧ MicroEffect s.takeTurn i t ∧ t.remaining + 1 = s.remaining := by
  obtain ⟨i, hi⟩ := exists_decodeMicro_of_busy hb
  obtain ⟨t, hx, -⟩ := microOp_completes_and_keeps_inv h.takeTurn hi
  exact ⟨i, t, (step_core hc hi).trans hx, microEffect_of_exec (isMicroOp_of_decodeMicro hi) hx,
    microOp_takes_one (s := s.takeTurn) h.takeTurn hi hx⟩

theorem run_succ {s t : State} (hst : step s = .next t) (n : Nat) : core.run (n + 1) s = core.run n t := by
  simp only [Host.Core.run, show core.step s = .next t from hst]

/-- With no turn listed the core runs its computation to DONE, in as many turns as micro-ops remain, R143 and R206. -/
theorem run_remaining {s : State} (h : s.Inv) (c : s.computes) (hm : s.moves = []) (hb : s.busy = true) (ha : s.admits) :
    ∃ t, core.run s.remaining s = .next t ∧ t.phase = .done ∧ t.digest = transform s.message ∧ t.irqEn = s.irqEn := by
  generalize hn : s.remaining = n
  induction n generalizing s with
  | zero => exact absurd ((remaining_eq_zero_iff s).1 hn) (by simp [hb])
  | succ n ih =>
    obtain ⟨i, t, hst, e, hr⟩ := step_core_of_busy h (.inl (by rw [hm]; rfl)) hb
    have hr : t.remaining = n := by omega
    have inv := step_keeps_inv h hst
    have comp := everyStepKeepsTheComputation s t h c hst
    obtain ⟨⟨addrW, moves, -⟩, -⟩ := e.same_setting
    obtain ⟨src, len⟩ := e.same_operands
    have message : t.message = s.message := e.same_message
    have irqEn : t.irqEn = s.irqEn := e.same_irqEn_errBusy.1
    rw [run_succ hst]
    cases ht : t.busy with
    | true =>
      have tm : t.moves = [] := by rw [moves, takeTurn_moves, hm]; rfl
      have ta : t.admits := by rw [State.admits, addrW, src, len]; exact ha
      obtain ⟨u, run, phase, digest, irq⟩ := ih inv comp tm ht ta hr
      exact ⟨u, run, phase, digest.trans (congrArg transform message), irq.trans irqEn⟩
    | false =>
      have done : t.phase = .done := e.done_of_not_busy ha hb ht
      have hs : s.phase ≠ .done := fun hs => by simp [State.busy, hs, Phase.busy, Phase.code] at hb
      obtain rfl : n = 0 := hr.symm.trans ((remaining_eq_zero_iff t).2 ht)
      exact ⟨t, rfl, done, (doneHoldsTheTransformOfTheMessage s t h c hst hs done).1, irqEn⟩

/-- PAD of a message that fails a check enters ERROR and keeps DIGEST, R103 and R188. -/
theorem step_of_padding_rejects {s : State} (hc : s.coreIsNext) (hp : s.phase = .padding) (ha : ¬ s.admits) :
    ∃ t, step s = .next t ∧ t.phase = .error ∧ t.digest = s.digest := by
  have pad : decodeMicro s.microWord = some .pad := by rw [decodeMicro_microWord, hp]
  exact ⟨_, (step_core hc pad).trans (exec_pad_of_not_admits (s := s.takeTurn) ha), rfl, rfl⟩

/-! ### START -/

/-- A START's descriptor decodes to START, R82 and R84. -/
theorem decodeDesc_start {data : Word} (h1 : data.getLsbD 1 = false) (h0 : data.getLsbD 0 = true) :
    decodeDesc (writeDesc 0x00 data) = some (.wrCtrlStart data) :=
  decodeOfEncodeIsTheOperation (.wrCtrlStart data) (by simp only [Instr.wellFormed, h1, h0]; rfl)

/-- The state after an accepted START, R160. -/
abbrev State.started (s : State) (data : Word) : State := (s.takeTurn.setIrqEn (ctrlIrqEn data)).acceptStart

theorem step_start {s : State} {data : Word} (hb : s.busy = false) (h1 : data.getLsbD 1 = false) (h0 : data.getLsbD 0 = true)
    (hm : s.moves = [.bus ⟨32, writeDesc 0x00 data⟩]) : step s = .next (s.started data) := by
  have hnext : s.hostIsNext ⟨32, writeDesc 0x00 data⟩ := by rw [State.hostIsNext, hm]; rfl
  rw [step_bus hnext rfl (decodeDesc_start h1 h0)]
  exact exec_wrCtrlStart_of_not_busy (s := s.takeTurn) data hb

/-- START changes neither the operands nor ADDR_W, R160. -/
theorem started_admits_iff (s : State) (data : Word) : (s.started data).admits ↔ s.admits := by
  simp [State.admits]

theorem started_message (s : State) (data : Word) : (s.started data).message = s.message := by
  simp [State.message, State.memRead]

/-- START of an admitted message leaves PAD, 66 for each of its blocks, and FINAL, R206. -/
theorem started_remaining {s : State} (ha : s.admits) (data : Word) :
    (s.started data).remaining = 2 + 66 * blockCount s.len.toNat := by
  rw [remaining_of_padding_admits (acceptStart_phase _) ((started_admits_iff s data).2 ha)]
  simp

/-- Settles O59: after START an admitted message's computation runs to DONE by `run_remaining`; of another PAD is the only
micro-op, and rejects it. -/
theorem computationEndsWithTheDigest : Obligations.ComputationEndsWithTheDigest := by
  unfold Obligations.ComputationEndsWithTheDigest
  intro s data h hb h1 h0 hm
  have start := step_start hb h1 h0 hm
  have noMoves : (s.started data).moves = [] := congrArg List.tail hm
  refine ⟨fun ha => ?_, fun ha => ?_⟩
  · have admits : (s.started data).admits := (started_admits_iff s data).2 ha
    obtain ⟨t, run, phase, digest, irqEn⟩ := run_remaining (step_keeps_inv h start) trivial noMoves rfl admits
    rw [Nat.add_comm, run_succ start, ← started_remaining ha data]
    refine ⟨t, run, phase, digest.trans (congrArg transform (started_message s data)), ?_⟩
    exact (irq_of_done phase).trans irqEn
  · have rejects : ¬ (s.started data).admits := mt (started_admits_iff s data).1 ha
    obtain ⟨t, reject, phase, digest⟩ := step_of_padding_rejects (.inl (by rw [noMoves]; rfl)) (acceptStart_phase _) rejects
    rw [run_succ start, run_succ (n := 0) reject]
    exact ⟨t, rfl, phase, digest.trans (by simp)⟩

/-! ### What changes DIGEST -/

/-- A transaction leaves DIGEST, or is a CLEAR, R144. -/
theorem HostEffect.digest_cases {s t : State} {i : Instr} (e : HostEffect s i t) :
    t.digest = s.digest ∨ ∃ data, i = .wrCtrlClear data := by
  cases e with
  | clears data => exact .inr ⟨data, rfl⟩
  | startAccepted => exact .inl (by simp)
  | answers | startIgnored | configures | srcIgnored | srcWritten | lenIgnored | lenWritten | ignored => exact .inl rfl

/-- Settles O44: of the micro-ops FINAL alone writes DIGEST, and of the host's turns CLEAR and the reset line's. -/
theorem digestChangesOnlyByFinalClearOrReset : Obligations.DigestChangesOnlyByFinalClearOrReset := by
  unfold Obligations.DigestChangesOnlyByFinalClearOrReset
  intro s t hst changed
  rcases step_cases hst with ⟨i, hc, hi, hx⟩ | ⟨-, -, rfl⟩ | ⟨req, i, hq, hw, hi, hx⟩ | ⟨hr, rfl⟩ | ⟨a, b, -, -, -, rfl⟩
  · by_cases hfinal : i = .final
    · subst hfinal
      cases (exec_final _).symm.trans hx
      exact .inl ⟨runs_core hc hi, rfl⟩
    · exact absurd ((microEffect_of_exec (isMicroOp_of_decodeMicro hi) hx).same_digest hfinal) changed
  · exact absurd rfl changed
  · obtain ⟨data, rfl⟩ := (hostEffect_of_exec (isMicroOp_of_decodeDesc hi) hx).digest_cases.resolve_left changed
    exact .inr (.inl ⟨data, runs_bus hq hw hi⟩)
  · exact .inr (.inr hr)
  · exact absurd rfl changed

/-! ### The digest's bytes -/

/-- Byte n of the digest is byte n mod 4 of its word n / 4, R141. -/
theorem digestBytes_getElem? (d : Vector Word 4) {n : Nat} (hn : n < 16) :
    (digestBytes d)[n]? = some (wordByte d[n / 4] (n % 4)) := by
  rw [digestBytes, List.getElem?_ofFn, dif_pos hn]
  rfl

/-- DIGEST's words stand at the last four offsets of the window, R36. -/
theorem windowWord_digest (s : State) (j : BitVec 2) : s.windowWord (0b11#2 ++ j) = s.digest[j.toNat] := by
  obtain ⟨k, hk, rfl⟩ : ∃ k, k < 4 ∧ j = BitVec.ofNat 2 k := ⟨j.toNat, j.isLt, by simp⟩
  interval_cases k <;> rfl

/-- A byte's offset in the window's last quarter as the register's index, 12 + n / 4, and the byte in the register, n mod 4. -/
theorem digestOffset_parts (n : BitVec 4) :
    (0b11#2 ++ n).extractLsb' 2 4 = 0b11#2 ++ n.extractLsb' 2 2 ∧ (n.extractLsb' 2 2).toNat = n.toNat / 4 ∧
      (0b11#2 ++ n).toNat % 4 = n.toNat % 4 := by
  revert n; decide

/-- Settles O41: `digestBytes_getElem?` at n = 4j + t, and at the window's offset 0x30 + n. -/
theorem digestBytesAreLittleEndianWords : Obligations.DigestBytesAreLittleEndianWords := by
  unfold Obligations.DigestBytesAreLittleEndianWords
  refine ⟨fun d => ⟨List.length_ofFn, fun j t => ?_⟩, fun s n => ?_⟩
  · have word : (4 * j.val + t.val) / 4 = j.val := by omega
    have byte : (4 * j.val + t.val) % 4 = t.val := by omega
    rw [digestBytes_getElem? d (by omega)]
    simp only [word, byte]
    rfl
  · obtain ⟨index, word, byte⟩ := digestOffset_parts n
    rw [digestBytes_getElem? _ n.isLt, State.windowByte, index, windowWord_digest, byte]
    simp only [word]

/-! ### FINAL -/

theorem decodeMicro_of_finalizing {w : MicroWord} (h : w.extractLsb' 6 3 = Phase.code .finalizing) :
    decodeMicro w = some .final := by
  obtain ⟨s, rfl, hp⟩ := exists_microWord_eq_of_phase h
  rw [decodeMicro_microWord, hp]

/-- STATUS.DONE is bit 4, R38. -/
theorem statusWord_getLsbD_done (s : State) : s.statusWord.getLsbD 4 = s.isDone := by
  simp only [State.statusWord, BitVec.getLsbD_setWidth, BitVec.getLsbD_append]
  simp

/-- Settles O40: FINAL's next state is `State.finished`, whose phase is DONE. -/
theorem finalCopiesTheChainingState : Obligations.FinalCopiesTheChainingState := by
  unfold Obligations.FinalCopiesTheChainingState
  refine ⟨fun w => decodeMicro_of_finalizing, fun s => ⟨s.finished, exec_final s, rfl, ?_, ?_⟩⟩
  · exact statusWord_getLsbD_done _
  · exact irq_of_done rfl

end Sys2Proof.Machine

namespace Sys2Proof.Machine

/-! ### The decode of a row's descriptors -/

/-- A descriptor that matches row k of R82 decodes to the operation the row builds. -/
theorem decodeDesc_of_row (k : Fin 20) {d : Desc} (h : d &&& (descTable.get k).mask = (descTable.get k).pattern) :
    decodeDesc d = some ((descTable.get k).build d) :=
  decodeDesc_of_applies (List.get_mem descTable k) (beq_iff_eq.2 h)

/-! ### The halves of a 64-bit register -/

/-- The value of a half, R152 to R155. -/
theorem half_toNat (hi : Bool) (v : DWord) : (half hi v).toNat = if hi then v.toNat / 2 ^ 32 else v.toNat % 2 ^ 32 := by
  cases hi with
  | false => simp [half]
  | true =>
    have fits : v.toNat / 2 ^ 32 < 2 ^ 32 := by omega
    simpa [half, Nat.shiftRight_eq_div_pow] using fits

/-- Bit k of a half is bit k, or 32 + k, of the register. -/
theorem half_getLsbD (hi : Bool) (v : DWord) {k : Nat} (hk : k < 32) :
    (half hi v).getLsbD k = v.getLsbD (if hi then 32 + k else k) := by
  cases hi <;> simp [half, hk]

@[simp] theorem half_zero (hi : Bool) : half hi 0 = 0 := by
  cases hi <;> rfl

/-- Two words side by side. -/
theorem toNat_append_word (x y : Word) : (x ++ y).toNat = x.toNat * 2 ^ 32 + y.toNat := by
  rw [BitVec.toNat_append, ← Nat.shiftLeft_add_eq_or_of_lt y.isLt, Nat.shiftLeft_eq]

/-- The value of a register with one half replaced, R163 and R164. -/
theorem insertHalf_toNat (hi : Bool) (v : DWord) (data : Word) : (insertHalf hi v data).toNat =
    if hi then data.toNat * 2 ^ 32 + v.toNat % 2 ^ 32 else v.toNat / 2 ^ 32 * 2 ^ 32 + data.toNat := by
  cases hi with
  | false => exact (toNat_append_word (half true v) data).trans (by rw [half_toNat]; rfl)
  | true => exact (toNat_append_word data (half false v)).trans (by rw [half_toNat]; rfl)

/-! ### Reads of SRC, LEN, NBLK and BLK -/

/-- SRC's bits from ADDR_W up are 0, R29. -/
theorem State.Inv.src_getLsbD {s : State} (h : s.Inv) {n : Nat} (hn : s.addrW ≤ n) : s.src.getLsbD n = false :=
  Nat.testBit_lt_two_pow (h.src_bounded.trans_le (Nat.pow_le_pow_right Nat.two_pos hn))

/-- NBLK is 0 between START and PAD and after a rejected PAD, R28. -/
theorem State.Inv.nblk_eq_zero {s : State} (h : s.Inv) (hp : s.phase = .padding ∨ s.phase = .error) : s.nblk = 0 := by
  have pos := h.position
  rcases hp with hp | hp <;> (simp only [State.positionInv, hp] at pos; obtain ⟨-, hnblk, -⟩ := pos; exact hnblk)

theorem State.Inv.blk_eq_nblk_of_done {s : State} (h : s.Inv) (hp : s.phase = .done) : s.blk = s.nblk := by
  have pos := h.position
  simp only [State.positionInv, hp] at pos
  exact pos.1

theorem State.Inv.blk_eq_zero_of_error {s : State} (h : s.Inv) (hp : s.phase = .error) : s.blk = 0 := by
  have pos := h.position
  simp only [State.positionInv, hp] at pos
  exact pos.1

/-- Settles O13: the word is `half hi s.src`, whose bit k is SRC's bit k or 32 + k. -/
theorem rdSrcReturnsTheHalfOfSrc : Obligations.RdSrcReturnsTheHalfOfSrc := by
  unfold Obligations.RdSrcReturnsTheHalfOfSrc
  refine ⟨fun _ => decodeDesc_of_row 2, fun s hi => ⟨half hi s.src, rfl, half_toNat hi s.src, fun h k hk hw => ?_⟩⟩
  rw [half_getLsbD hi s.src hk]
  exact h.src_getLsbD hw

/-- Settles O14: each word is a `half`, and the position's invariant gives NBLK and BLK by phase. -/
theorem readsOfLenNblkAndBlkReturnTheirHalves : Obligations.ReadsOfLenNblkAndBlkReturnTheirHalves := by
  unfold Obligations.ReadsOfLenNblkAndBlkReturnTheirHalves
  refine ⟨fun _ => decodeDesc_of_row 3, fun _ => decodeDesc_of_row 4, fun _ => decodeDesc_of_row 5, fun s hi => ?_, fun s => ?_⟩
  · refine ⟨half hi s.len, half hi s.nblk, half hi s.blk, rfl, rfl, rfl, half_toNat _ _, half_toNat _ _, half_toNat _ _,
      fun h hp => ?_, fun h hp => ?_, fun h hp => ?_⟩
    · rw [h.nblk_eq_zero hp, half_zero]
    · rw [h.blk_eq_nblk_of_done hp]
    · rw [h.blk_eq_zero_of_error hp, half_zero]
  · obtain ⟨t, hx⟩ : ∃ t, exec .pad s = .next t := ⟨_, rfl⟩
    exact ⟨t, hx, (microEffect_of_exec rfl hx).same_operands.2⟩

/-! ### Reads of CTRL, STATUS, STEP and DIGEST -/

/-- CTRL reads IRQ_EN at bit 2 and 0 elsewhere, R37. -/
theorem ctrlWord_getLsbD (s : State) (k : Nat) : s.ctrlWord.getLsbD k = (decide (k = 2) && s.irqEn) := by
  simp only [State.ctrlWord, BitVec.getLsbD_setWidth, BitVec.getLsbD_append, BitVec.getLsbD_ofBool]
  match k with
  | 0 | 1 | 2 => simp
  | k + 3 => simp

/-- STATUS's fields in their places, R38. -/
theorem statusWord_fields (s : State) : s.statusWord.extractLsb' 0 3 = s.phase.code ∧ s.statusWord.getLsbD 3 = s.busy ∧
    s.statusWord.getLsbD 5 = s.errTooLarge ∧ s.statusWord.getLsbD 6 = s.errRange ∧ s.statusWord.getLsbD 7 = s.errBusy ∧
    s.statusWord.getLsbD 8 = s.irq := by
  simp only [State.statusWord, BitVec.getLsbD_setWidth, BitVec.getLsbD_append]
  refine ⟨?_, by simp, by simp, by simp, by simp, by simp⟩
  rw [BitVec.extractLsb'_setWidth_of_le (by decide)]
  exact BitVec.extractLsb'_append_eq_right

/-- STATUS has nine bits, R38. -/
theorem statusWord_getLsbD_of_ge (s : State) {k : Nat} (hk : 9 ≤ k) : s.statusWord.getLsbD k = false := by
  simp only [State.statusWord, BitVec.getLsbD_setWidth]
  rw [BitVec.getLsbD_of_ge _ k hk, Bool.and_false]

/-- DONE by the phase's code, R25 and R34. -/
theorem isDone_eq_code (s : State) : s.isDone = decide (s.phase.code = 6) := by
  unfold State.isDone
  cases s.phase <;> rfl

/-- `irq` by the phase's code, R25 and R35. -/
theorem irq_eq_code (s : State) : s.irq = (s.irqEn && (decide (s.phase.code = 6) || decide (s.phase.code = 7))) := by
  unfold State.irq
  cases s.phase <;> rfl

/-- BUSY and DONE are never both 1, R34. -/
theorem busy_and_isDone (s : State) : (s.busy && s.isDone) = false := by
  unfold State.busy State.isDone
  cases s.phase <;> rfl

/-- Settles O11: CTRL's word bit by bit. -/
theorem rdCtrlReturnsIrqEn : Obligations.RdCtrlReturnsIrqEn := by
  unfold Obligations.RdCtrlReturnsIrqEn
  refine ⟨fun _ => decodeDesc_of_row 0, fun s => ⟨s.ctrlWord, rfl, ctrlWord_getLsbD s 2, fun k hk => ?_⟩⟩
  rw [ctrlWord_getLsbD, decide_eq_false hk, Bool.false_and]

/-- Settles O12: the fields of STATUS's word, with DONE and `irq` read off the phase's code. -/
theorem rdStatusReturnsTheStatusFields : Obligations.RdStatusReturnsTheStatusFields := by
  unfold Obligations.RdStatusReturnsTheStatusFields
  refine ⟨fun _ => decodeDesc_of_row 1, fun s => ?_⟩
  obtain ⟨phase, busy, tooLarge, range, errBusy, irq⟩ := statusWord_fields s
  have done := statusWord_getLsbD_done s
  refine ⟨s.statusWord, rfl, phase, busy, done.trans (isDone_eq_code s), tooLarge, range, errBusy, irq.trans (irq_eq_code s),
    fun k => statusWord_getLsbD_of_ge s, ?_⟩
  rw [busy, done, busy_and_isDone]

/-- Settles O15: STEP zero-extended, which the invariant makes 0 outside ITER_ROUND. -/
theorem rdStepReturnsStepAndRdRsvdZero : Obligations.RdStepReturnsStepAndRdRsvdZero := by
  unfold Obligations.RdStepReturnsStepAndRdRsvdZero
  refine ⟨fun _ => decodeDesc_of_row 6, fun s => ⟨s.step.setWidth 32, rfl, ?_, fun h hp => ?_⟩, fun _ => decodeDesc_of_row 7,
    fun s => rfl⟩
  · exact BitVec.toNat_setWidth_of_le (by decide)
  · rw [h.step_zero hp]; rfl

/-- Settles O16: row 8 of R82, whose N is ADDR[3:2]. -/
theorem rdDigestReturnsTheNamedWord : Obligations.RdDigestReturnsTheNamedWord := by
  unfold Obligations.RdDigestReturnsTheNamedWord
  exact ⟨fun _ => decodeDesc_of_row 8, fun s n => rfl⟩

/-! ### Writes of SRC and LEN -/

/-- What WR_SRC stores, R163: no bit is lost in the 64. -/
theorem ofNat_toNat_mod_two_pow (v : DWord) (w : Nat) : (BitVec.ofNat 64 (v.toNat % 2 ^ w)).toNat = v.toNat % 2 ^ w := by
  rw [BitVec.toNat_ofNat]
  exact Nat.mod_eq_of_lt ((Nat.mod_le _ _).trans_lt v.isLt)

/-- Settles O22: the two conditions of WR_SRC, with the value stored by `insertHalf_toNat`. -/
theorem wrSrcWritesTheHalfUnlessBusy : Obligations.WrSrcWritesTheHalfUnlessBusy := by
  unfold Obligations.WrSrcWritesTheHalfUnlessBusy
  refine ⟨fun _ => decodeDesc_of_row 13, fun s hi data => ⟨fun hb => exec_wrSrc_of_busy hi data hb, fun hb => ?_⟩⟩
  refine ⟨_, exec_wrSrc_of_not_busy hi data hb, rfl, ?_⟩
  rw [setSrc_src, ofNat_toNat_mod_two_pow, insertHalf_toNat]

/-- Settles O23: the two conditions of WR_LEN, with the value stored by `insertHalf_toNat`. -/
theorem wrLenWritesTheHalfUnlessBusy : Obligations.WrLenWritesTheHalfUnlessBusy := by
  unfold Obligations.WrLenWritesTheHalfUnlessBusy
  refine ⟨fun _ => decodeDesc_of_row 14, fun s hi data => ⟨fun hb => exec_wrLen_of_busy hi data hb, fun hb => ?_⟩⟩
  exact ⟨_, exec_wrLen_of_not_busy hi data hb, rfl, insertHalf_toNat hi s.len data⟩

/-! ### Writes of CTRL -/

/-- The reset of the core gives every value of R51. -/
theorem resetCore_holdsResetValues (s : State) : s.resetCore.HoldsResetValues where
  phase := rfl
  step := rfl
  blk := rfl
  nblk := rfl
  src := rfl
  len := rfl
  irqEn := rfl
  errors := ⟨rfl, rfl, rfl⟩
  digest := by rw [resetCore_digest]; decide
  irq := rfl

/-- After the reset of the core no micro-op is left, R87. -/
theorem decodeMicro_resetCore (s : State) : decodeMicro s.resetCore.microWord = none := by
  rw [decodeMicro_microWord, resetCore_phase]

/-- Settles O19: CLEAR is `State.resetCore`, which leaves InMem, ADDR_W, the turns and bus_rdata. -/
theorem wrCtrlClearResetsTheCore : Obligations.WrCtrlClearResetsTheCore := by
  unfold Obligations.WrCtrlClearResetsTheCore
  exact ⟨fun _ => decodeDesc_of_row 9, fun s data => ⟨s.resetCore, rfl, resetCore_holdsResetValues s, decodeMicro_resetCore s,
    fun _ => rfl, rfl, rfl, rfl⟩⟩

/-- An accepted START field by field, R160. -/
theorem acceptStart_eq (s : State) : s.acceptStart = { s with
    errTooLarge := false, errRange := false, errBusy := false, h := iv, blk := 0, step := 0, nblk := 0, phase := .padding } := by
  simp only [State.acceptStart, State.setErrors, State.setH, State.setBlk, State.setStep, State.setNblk, State.setPhase]

/-- Settles O20: START by BUSY; the phases that are not BUSY are IDLE, DONE and ERROR. -/
theorem wrCtrlStartBeginsAComputationUnlessBusy : Obligations.WrCtrlStartBeginsAComputationUnlessBusy := by
  unfold Obligations.WrCtrlStartBeginsAComputationUnlessBusy
  refine ⟨fun _ => decodeDesc_of_row 10, fun s data => ⟨fun ⟨hlo, hhi⟩ => ?_, fun hp => ?_⟩⟩
  · have hb : s.busy = true := by simp [State.busy, Phase.busy, hlo, hhi]
    exact exec_wrCtrlStart_of_busy data hb
  · rw [exec_wrCtrlStart_of_not_busy data ((Phase.not_busy_iff s.phase).2 hp), acceptStart_eq]
    rfl

/-- In DONE and ERROR `irq` is IRQ_EN, R35. -/
theorem irq_of_done_or_error {s : State} (hp : s.phase = .done ∨ s.phase = .error) : s.irq = s.irqEn := by
  rcases hp with hp | hp <;> simp [State.irq, hp]

/-- Settles O21: CFG is `State.setIrqEn`, under which the phase stays. -/
theorem wrCtrlCfgWritesIrqEn : Obligations.WrCtrlCfgWritesIrqEn := by
  unfold Obligations.WrCtrlCfgWritesIrqEn
  refine ⟨fun _ => decodeDesc_of_row 11, fun s data => ⟨s.setIrqEn (ctrlIrqEn data), rfl, rfl, fun hp => ?_⟩⟩
  exact irq_of_done_or_error (s := s.setIrqEn (ctrlIrqEn data)) hp

/-- Settles O24: the rows of R162 and R165 to R169, whose meanings answer the state they are given. -/
theorem writesToReadOnlyRegistersAreIgnored : Obligations.WritesToReadOnlyRegistersAreIgnored := by
  unfold Obligations.WritesToReadOnlyRegistersAreIgnored
  exact ⟨fun _ => decodeDesc_of_row 12, fun _ => decodeDesc_of_row 15, fun _ => decodeDesc_of_row 16,
    fun _ => decodeDesc_of_row 17, fun _ => decodeDesc_of_row 18, fun _ => decodeDesc_of_row 19,
    fun s hi n data => ⟨rfl, rfl, rfl, rfl, rfl, rfl⟩⟩

/-! ### The frame of the writes -/

/-- What WR_SRC and WR_LEN both leave: all but SRC, LEN and ERR_BUSY. -/
abbrev SameButOperands (s t : State) : Prop :=
  t.irqEn = s.irqEn ∧ SameSequencer s t ∧ t.errTooLarge = s.errTooLarge ∧ t.errRange = s.errRange ∧ t.digest = s.digest ∧
    SameDatapath s t ∧ SameInMem s t ∧ SameSetting s t ∧ t.busRdata = s.busRdata

/-- Both cases of WR_SRC leave LEN, R163. -/
theorem HostEffect.wrSrc_frame {s t : State} {hi : Bool} {data : Word} (e : HostEffect s (.wrSrc hi data) t) :
    t.len = s.len ∧ SameButOperands s t := by
  cases e with
  | srcIgnored | srcWritten =>
    exact ⟨rfl, rfl, ⟨rfl, rfl, rfl, rfl⟩, rfl, rfl, rfl, ⟨rfl, rfl, rfl⟩, fun _ => rfl, ⟨rfl, rfl, rfl⟩, rfl⟩
  | answers _ hr | ignored hr => cases hr

/-- Both cases of WR_LEN leave SRC, R164. -/
theorem HostEffect.wrLen_frame {s t : State} {hi : Bool} {data : Word} (e : HostEffect s (.wrLen hi data) t) :
    t.src = s.src ∧ SameButOperands s t := by
  cases e with
  | lenIgnored | lenWritten =>
    exact ⟨rfl, rfl, ⟨rfl, rfl, rfl, rfl⟩, rfl, rfl, rfl, ⟨rfl, rfl, rfl⟩, fun _ => rfl, ⟨rfl, rfl, rfl⟩, rfl⟩
  | answers _ hr | ignored hr => cases hr

/-- A START ignored leaves the position, H and the input errors too, R160 and R183. -/
theorem HostEffect.wrCtrlStart_frame {s t : State} {data : Word} (e : HostEffect s (.wrCtrlStart data) t) :
    SameOperands s t ∧ t.digest = s.digest ∧ t.r = s.r ∧ t.m = s.m ∧ SameInMem s t ∧ SameSetting s t ∧
      t.busRdata = s.busRdata ∧
      (s.busy = true → SameSequencer s t ∧ t.h = s.h ∧ t.errTooLarge = s.errTooLarge ∧ t.errRange = s.errRange) := by
  cases e with
  | startIgnored =>
    exact ⟨⟨rfl, rfl⟩, rfl, rfl, rfl, fun _ => rfl, ⟨rfl, rfl, rfl⟩, rfl, fun _ => ⟨⟨rfl, rfl, rfl, rfl⟩, rfl, rfl, rfl⟩⟩
  | startAccepted _ hb => simp [hb, SameOperands, SameInMem, SameSetting, State.memRead]
  | answers _ hr | ignored hr => cases hr

/-- CFG writes IRQ_EN alone, R161. -/
theorem HostEffect.wrCtrlCfg_frame {s t : State} {data : Word} (e : HostEffect s (.wrCtrlCfg data) t) :
    SameOperands s t ∧ SameSequencer s t ∧ SameErrors s t ∧ t.digest = s.digest ∧ SameDatapath s t ∧ SameInMem s t ∧
      SameSetting s t ∧ t.busRdata = s.busRdata := by
  cases e with
  | configures =>
    exact ⟨⟨rfl, rfl⟩, ⟨rfl, rfl, rfl, rfl⟩, ⟨rfl, rfl, rfl⟩, rfl, ⟨rfl, rfl, rfl⟩, fun _ => rfl, ⟨rfl, rfl, rfl⟩, rfl⟩
  | answers _ hr | ignored hr => cases hr

/-- Settles O25: each write completes by `exec_hostOp`, and its effect has the frame. -/
theorem hostWritesFrame : Obligations.HostWritesFrame := by
  unfold Obligations.HostWritesFrame
  intro s hi data
  obtain ⟨t₁, src, e₁⟩ := exec_hostOp (i := .wrSrc hi data) rfl s
  obtain ⟨t₂, len, e₂⟩ := exec_hostOp (i := .wrLen hi data) rfl s
  obtain ⟨t₃, start, e₃⟩ := exec_hostOp (i := .wrCtrlStart data) rfl s
  obtain ⟨t₄, cfg, e₄⟩ := exec_hostOp (i := .wrCtrlCfg data) rfl s
  exact ⟨⟨t₁, src, e₁.wrSrc_frame⟩, ⟨t₂, len, e₂.wrLen_frame⟩, ⟨t₃, start, e₃.wrCtrlStart_frame⟩, ⟨t₄, cfg, e₄.wrCtrlCfg_frame⟩⟩

end Sys2Proof.Machine

namespace Sys2Proof.Machine

/-! ### What changes the phase -/

/-- A step keeps the phase, moves the sequencer to IDLE or PADDING, or runs a micro-op, R67. -/
theorem step_phase_cases {s t : State} (hst : step s = .next t) :
    t.phase = s.phase ∨ t.phase = .idle ∨ t.phase = .padding ∨
      ∃ i, s.runs i ∧ decodeMicro s.microWord = some i ∧ MicroEffect s.takeTurn i t := by
  rcases step_cases hst with ⟨i, hc, hi, hx⟩ | ⟨-, -, rfl⟩ | ⟨req, i, -, -, hi, hx⟩ | ⟨-, rfl⟩ | ⟨a, b, -, -, -, rfl⟩
  · exact .inr (.inr (.inr ⟨i, runs_core hc hi, hi, microEffect_of_exec (isMicroOp_of_decodeMicro hi) hx⟩))
  · exact .inl rfl
  · exact (hostEffect_of_exec (isMicroOp_of_decodeDesc hi) hx).phase_cases.imp_right (Or.imp_right .inl)
  · exact .inr (.inl rfl)
  · exact .inl rfl

/-- A transaction leaves the phase, or is an accepted START or a CLEAR, R159 and R160. -/
theorem HostEffect.phase_changes {s t : State} {i : Instr} (hr : s.runs i) (e : HostEffect s.takeTurn i t) :
    t.phase = s.phase ∨ s.startsNext ∨ s.resetsNext := by
  cases e with
  | answers | configures | srcIgnored | srcWritten | lenIgnored | lenWritten | ignored => exact .inl rfl
  | startIgnored => exact .inl (by simp)
  | clears data => exact .inr (.inr (.inl ⟨data, hr⟩))
  | startAccepted data hb => exact .inr (.inl ⟨hb, data, hr⟩)

/-- Where the core has no micro-op, the host and the reset line alone change the phase, R87. -/
theorem step_phase_changes_of_no_microOp {s t : State} (hd : decodeMicro s.microWord = none) (hst : step s = .next t) :
    t.phase = s.phase ∨ s.startsNext ∨ s.resetsNext := by
  rcases step_cases hst with ⟨i, -, hi, -⟩ | ⟨-, -, rfl⟩ | ⟨req, i, hq, hw, hi, hx⟩ | ⟨hr, -⟩ | ⟨a, b, -, -, -, rfl⟩
  · cases hd.symm.trans hi
  · exact .inl rfl
  · exact (hostEffect_of_exec (isMicroOp_of_decodeDesc hi) hx).phase_changes (runs_bus hq hw hi)
  · exact .inr (.inr (.inr hr))
  · exact .inl rfl

/-- An accepted START enters PADDING and keeps the operands, R160. -/
theorem started_of_startsNext {s t : State} (h : s.startsNext) (hst : step s = .next t) :
    t.phase = .padding ∧ SameOperands s t := by
  obtain ⟨hb, data, hr⟩ := h
  rw [step_of_runs hr, exec_wrCtrlStart_of_not_busy (s := s.takeTurn) data hb] at hst
  cases hst
  exact ⟨acceptStart_phase _, by simp [SameOperands]⟩

/-! ### The entry to ERROR -/

/-- PAD is selected in PADDING alone, R86. -/
theorem phase_of_decodeMicro_pad {s : State} (hd : decodeMicro s.microWord = some .pad) : s.phase = .padding := by
  rw [decodeMicro_microWord] at hd
  obtain ⟨hne, -, -, -⟩ := stepOpAt_ne s.step
  cases hp : s.phase with
  | padding => rfl
  | iterRound => simp [hp, hne] at hd
  | idle | iterLoad | iterFeed | finalizing | done | error => simp [hp] at hd

/-- PAD's rejection alone enters ERROR, R103. -/
theorem MicroEffect.enters_error {s t : State} {i : Instr} (e : MicroEffect s i t) (ht : t.phase = .error)
    (hs : s.phase ≠ .error) : i = .pad ∧ ¬ s.admits ∧ t = s.enterError s.lenTooLarge s.pastInMem := by
  cases e with
  | padRejects ha => exact ⟨rfl, ha, rfl⟩
  | padAdmits | loads | finishes => cases ht
  | rounds k =>
    rw [compressStep_phase] at ht
    split at ht
    · cases ht
    · exact absurd ht hs
  | feeds =>
    unfold State.fed at ht
    split at ht <;> cases ht

theorem step_enters_error {s t : State} (hst : step s = .next t) (ht : t.phase = .error) (hs : s.phase ≠ .error) :
    s.runs .pad ∧ s.phase = .padding ∧ ¬ s.admits ∧ t = s.takeTurn.enterError s.lenTooLarge s.pastInMem := by
  rcases step_phase_cases hst with same | idle | padding | ⟨i, hr, hi, e⟩
  · exact absurd (same.symm.trans ht) hs
  · cases idle.symm.trans ht
  · cases padding.symm.trans ht
  · obtain ⟨rfl, ha, he⟩ := e.enters_error ht hs
    exact ⟨hr, phase_of_decodeMicro_pad hi, ha, he⟩

/-- What the invariant says between START and PAD, R160. -/
theorem State.Inv.position_of_padding {s : State} (h : s.Inv) (hp : s.phase = .padding) :
    s.blk = 0 ∧ s.nblk = 0 ∧ s.h = iv ∧ s.noInputError := by
  have pos := h.position
  simp only [State.positionInv, hp] at pos
  exact pos

/-- Settles O46: ERROR is entered by PAD's rejection, which adds its flags to the state of PADDING, where none is set. -/
theorem entryToErrorRecordsTheFlagsAlone : Obligations.EntryToErrorRecordsTheFlagsAlone := by
  unfold Obligations.EntryToErrorRecordsTheFlagsAlone
  intro s t h hst hs ht
  obtain ⟨hr, hp, ha, rfl⟩ := step_enters_error hst ht hs
  obtain ⟨blk, nblk, chain, noTooLarge, noRange⟩ := h.position_of_padding hp
  have step0 : s.step = 0 := h.step_zero (by simp [hp])
  have tooLarge : (s.takeTurn.enterError s.lenTooLarge s.pastInMem).errTooLarge = s.lenTooLarge := by simp [noTooLarge]
  have range : (s.takeTurn.enterError s.lenTooLarge s.pastInMem).errRange = s.pastInMem := by simp [noRange]
  have failed : s.lenTooLarge = true ∨ s.pastInMem = true := by
    rwa [← checks_false_iff_admits, Bool.not_eq_false, Bool.or_eq_true] at ha
  exact ⟨hr, tooLarge, range, by rwa [tooLarge, range], blk, step0, nblk, ⟨rfl, rfl⟩, rfl, rfl, chain, rfl, rfl⟩

/-! ### The exit from ERROR -/

/-- Settles O47: ERROR has no micro-op, so a change of phase is the host's or the reset line's. -/
theorem errorIsLeftOnlyByStartClearOrReset : Obligations.ErrorIsLeftOnlyByStartClearOrReset := by
  unfold Obligations.ErrorIsLeftOnlyByStartClearOrReset
  intro s t hp hst
  have quiescent : decodeMicro s.microWord = none := (decodeMicro_microWord_eq_none_iff s).2 (.inr (.inr hp))
  refine ⟨quiescent, fun left => ?_⟩
  rcases step_phase_changes_of_no_microOp quiescent hst with same | starts | resets
  · exact absurd (same.trans hp) left
  · exact .inl ⟨starts, started_of_startsNext starts hst⟩
  · exact .inr resets

/-! ### `irq`'s enable -/

/-- START, whether accepted or ignored, and CFG write IRQ_EN from DATA's bit 2, R160 and R161. -/
theorem irqEn_of_runs_ctrlWrite {s t : State} {data : Word} (hr : s.runs (.wrCtrlStart data) ∨ s.runs (.wrCtrlCfg data))
    (hst : step s = .next t) : t.irqEn = data.getLsbD 2 := by
  rcases hr with hr | hr
  · cases hostEffect_of_exec rfl ((step_of_runs hr).symm.trans hst) with
    | startIgnored | startAccepted => rfl
    | answers _ no | ignored no => cases no
  · cases (step_of_runs hr).symm.trans hst
    rfl

/-- CLEAR and reset clear IRQ_EN, R159 and R200. -/
theorem irqEn_of_resetsNext {s t : State} (h : s.resetsNext) (hst : step s = .next t) : t.irqEn = false := by
  rcases h with ⟨data, hr⟩ | hr
  · cases (step_of_runs hr).symm.trans hst; rfl
  · cases (step_rst hr).symm.trans hst; rfl

/-- A transaction leaves IRQ_EN, or is a write of CTRL, R31. -/
theorem HostEffect.irqEn_changes {s t : State} {i : Instr} (hr : s.runs i) (e : HostEffect s.takeTurn i t) :
    t.irqEn = s.irqEn ∨ (∃ data, s.runs (.wrCtrlStart data) ∨ s.runs (.wrCtrlCfg data)) ∨ s.resetsNext := by
  cases e with
  | answers | srcIgnored | srcWritten | lenIgnored | lenWritten | ignored => exact .inl rfl
  | clears data => exact .inr (.inr (.inl ⟨data, hr⟩))
  | startIgnored data | startAccepted data => exact .inr (.inl ⟨data, .inl hr⟩)
  | configures data => exact .inr (.inl ⟨data, .inr hr⟩)

theorem step_irqEn_changes {s t : State} (hst : step s = .next t) :
    t.irqEn = s.irqEn ∨ (∃ data, s.runs (.wrCtrlStart data) ∨ s.runs (.wrCtrlCfg data)) ∨ s.resetsNext := by
  rcases step_cases hst with ⟨i, -, hi, hx⟩ | ⟨-, -, rfl⟩ | ⟨req, i, hq, hw, hi, hx⟩ | ⟨hr, -⟩ | ⟨a, b, -, -, -, rfl⟩
  · exact .inl (microEffect_of_exec (isMicroOp_of_decodeMicro hi) hx).same_irqEn_errBusy.1
  · exact .inl rfl
  · exact (hostEffect_of_exec (isMicroOp_of_decodeDesc hi) hx).irqEn_changes (runs_bus hq hw hi)
  · exact .inr (.inr (.inr hr))
  · exact .inl rfl

/-! ### `irq`'s level -/

/-- The level of `irq`, R35. -/
theorem irq_eq_true_iff (s : State) : s.irq = true ↔ s.irqEn = true ∧ (s.phase = .done ∨ s.phase = .error) := by
  simp [State.irq]

/-- In DONE and ERROR, where `irq` is IRQ_EN, a START is accepted, R34. A change of IRQ_EN without one is a CFG's, a CLEAR's or the
reset line's. -/
theorem step_irqEn_changes_of_done_or_error {s t : State} (hp : s.phase = .done ∨ s.phase = .error) (hst : step s = .next t) :
    t.irqEn = s.irqEn ∨ s.startsNext ∨ s.resetsNext ∨ ∃ data, s.runs (.wrCtrlCfg data) ∧ data.getLsbD 2 = t.irqEn := by
  have hb : s.busy = false := (Phase.not_busy_iff s.phase).2 (.inr hp)
  rcases step_irqEn_changes hst with same | ⟨data, start | cfg⟩ | resets
  · exact .inl same
  · exact .inr (.inl ⟨hb, data, start⟩)
  · exact .inr (.inr (.inr ⟨data, cfg, (irqEn_of_runs_ctrlWrite (.inr cfg) hst).symm⟩))
  · exact .inr (.inr (.inl resets))

/-- What lowers `irq`: the phase is left, or IRQ_EN is written 0, R186. -/
theorem step_lowers_irq {s t : State} (hst : step s = .next t) (hs : s.irq = true) (ht : t.irq = false) :
    s.startsNext ∨ s.resetsNext ∨ ∃ data, s.runs (.wrCtrlCfg data) ∧ data.getLsbD 2 = false := by
  obtain ⟨enabled, hp⟩ := (irq_eq_true_iff s).1 hs
  have quiescent : decodeMicro s.microWord = none := (decodeMicro_microWord_eq_none_iff s).2 (.inr hp)
  rcases step_phase_changes_of_no_microOp quiescent hst with same | starts | resets
  · have disabled : t.irqEn = false := (irq_of_done_or_error (same ▸ hp)).symm.trans ht
    have changed : t.irqEn ≠ s.irqEn := by simp [enabled, disabled]
    exact disabled ▸ (step_irqEn_changes_of_done_or_error hp hst).resolve_left changed
  · exact .inl starts
  · exact .inr (.inl resets)

/-- What enters DONE or ERROR: FINAL and PAD, R103 and R140. -/
theorem step_enters_done_or_error {s t : State} (hst : step s = .next t) (ht : t.phase = .done ∨ t.phase = .error)
    (hs : t.phase ≠ s.phase) : s.runs .pad ∨ s.runs .final := by
  rcases ht with done | error
  · rcases step_phase_cases hst with same | idle | padding | ⟨i, hr, -, e⟩
    · exact absurd same hs
    · cases idle.symm.trans done
    · cases padding.symm.trans done
    · obtain ⟨rfl, -⟩ := e.enters_done done fun hp => hs (done.trans hp.symm)
      exact .inr hr
  · exact .inl (step_enters_error hst error fun hp => hs (error.trans hp.symm)).1

/-- What raises `irq`: DONE or ERROR is entered, or IRQ_EN is written 1 there, R186. -/
theorem step_raises_irq {s t : State} (hst : step s = .next t) (hs : s.irq = false) (ht : t.irq = true) :
    s.runs .pad ∨ s.runs .final ∨ ∃ data, s.runs (.wrCtrlCfg data) ∧ data.getLsbD 2 = true := by
  obtain ⟨enabled, hp⟩ := (irq_eq_true_iff t).1 ht
  by_cases same : t.phase = s.phase
  · have hps : s.phase = .done ∨ s.phase = .error := same ▸ hp
    have disabled : s.irqEn = false := (irq_of_done_or_error hps).symm.trans hs
    rcases step_irqEn_changes_of_done_or_error hps hst with kept | starts | resets | cfg
    · simp [kept, disabled] at enabled
    · simp [(started_of_startsNext starts hst).1] at hp
    · simp [irqEn_of_resetsNext resets hst] at enabled
    · exact .inr (.inr (enabled ▸ cfg))
  · exact (step_enters_done_or_error hst hp same).imp_right .inl

/-- Settles O48: the level by `irq_eq_true_iff`; the enable by what the writes of CTRL, CLEAR and reset do; the rises and falls by
`step_raises_irq` and `step_lowers_irq`. -/
theorem irqFollowsEnableAndPhase : Obligations.IrqFollowsEnableAndPhase := by
  unfold Obligations.IrqFollowsEnableAndPhase
  refine ⟨fun s => ?_, fun s t hst => ?_⟩
  · obtain ⟨-, -, -, -, -, bit8⟩ := statusWord_fields s
    exact ⟨irq_eq_true_iff s, bit8⟩
  · exact ⟨fun data hr => irqEn_of_runs_ctrlWrite hr hst, fun resets => irqEn_of_resetsNext resets hst,
      (step_irqEn_changes hst).resolve_left, step_lowers_irq hst, step_raises_irq hst⟩

end Sys2Proof.Machine

namespace Sys2Proof.Machine

/-! ### Reset -/

/-- After the reset of the core STATUS reads 0, R51 and R151. -/
theorem statusWord_resetCore (s : State) : s.resetCore.statusWord = 0 := by
  have busy : s.resetCore.busy = false := rfl
  have done : s.resetCore.isDone = false := rfl
  have irq : s.resetCore.irq = false := rfl
  simp [State.statusWord, busy, done, irq, Phase.code]

/-- Settles O9: the reset line's turn is `State.resetCore`, which is CLEAR's meaning. -/
theorem resetTurnAndClearGiveResetValues : Obligations.ResetTurnAndClearGiveResetValues := by
  unfold Obligations.ResetTurnAndClearGiveResetValues
  exact fun s hr => ⟨s.takeTurn.resetCore, step_rst hr, resetCore_holdsResetValues _, statusWord_resetCore _,
    decodeMicro_resetCore _, fun _ => rfl, rfl, fun _ => rfl⟩

/-! ### The count of a computation, R206 -/

/-- An accepted START leaves `State.started`, R160. -/
theorem eq_started_of_startsNext {s t : State} (h : s.startsNext) (hst : step s = .next t) : ∃ data, t = s.started data := by
  obtain ⟨hb, data, hr⟩ := h
  rw [step_of_runs hr, exec_wrCtrlStart_of_not_busy (s := s.takeTurn) data hb] at hst
  exact ⟨data, (Host.Outcome.next.inj hst).symm⟩

/-- START of a message that PAD rejects leaves PAD alone, R206. -/
theorem started_remaining_of_rejects {s : State} (ha : ¬ s.admits) (data : Word) : (s.started data).remaining = 1 :=
  remaining_of_padding_rejects (acceptStart_phase _) (mt (started_admits_iff s data).1 ha)

/-- A BUSY core's turn takes one micro-op off, R206. -/
theorem step_core_takes_one {s t : State} (h : s.Inv) (hc : s.coreIsNext) (hb : s.busy = true) (hst : step s = .next t) :
    t.remaining + 1 = s.remaining := by
  obtain ⟨i, u, hu, -, one⟩ := step_core_of_busy h hc hb
  cases hst.symm.trans hu
  exact one

/-- Settles O58: the count at START by whether PAD admits the message, one off by `step_core_takes_one`, and no micro-op left outside
BUSY by `remaining_eq_zero_iff`. -/
theorem everyCoreTurnTakesOneMicroOpOff : Obligations.EveryCoreTurnTakesOneMicroOpOff := by
  unfold Obligations.EveryCoreTurnTakesOneMicroOpOff
  refine ⟨fun s t _ starts hst => ?_, fun s t => step_core_takes_one, fun s _ => remaining_eq_zero_iff s⟩
  obtain ⟨data, rfl⟩ := eq_started_of_startsNext starts hst
  split
  next ha => exact started_remaining ha data
  next ha => exact started_remaining_of_rejects ha data

end Sys2Proof.Machine
